-- ==== Sys2Proof/Word.lean ====
section
/-! DEFINITION. The word types of the FS32 shift encoder (00_scope.md R5, R6, R12, R13; 30_encoding.md R65). -/

namespace Sys2Proof

/-- One byte lane of a word (00_scope.md R13). -/
abbrev Byte := BitVec 8

/-- The value operand and the result: exactly 32 bits, unsigned (00_scope.md R5). -/
abbrev Word32 := BitVec 32

/-- A shift distance as a port or a command field carries it: 0..255 (00_scope.md R6). -/
abbrev Dist := BitVec 8

/-- A command word `req_cmd[15:0]` (30_encoding.md R65). -/
abbrev Cmd := BitVec 16

end Sys2Proof
end

