-- ==== Sys2Proof/Syntax.lean ====
section
/-! DEFINITION. The commands of the FS32 shift encoder: one constructor for each mnemonic of spec/opcode_table.json. -/

namespace Sys2Proof

/-- The direction of a shift: 0 is left, 1 is right (30_encoding.md R67). -/
inductive Dir where
  | left
  | right
deriving DecidableEq, Repr

/-- The commands (30_encoding.md R72, R73, R80). A K form has its distance in its name, one constructor for each
distance with a rule of its own; the decomposition distances (17..23 and 25..255, nine table rows in each direction
because that set is no single mask pattern) are one constructor with the distance as its operand. An R form takes its
distance from the port `req_dist` and has no operand in the word. -/
inductive Instr where
  /-- `SHL.K/0` (40_left_shift.md R101). -/
  | shlK0
  /-- `SHL.K/1` (40_left_shift.md R102). -/
  | shlK1
  /-- `SHL.K/2` (40_left_shift.md R103). -/
  | shlK2
  /-- `SHL.K/3` (40_left_shift.md R104). -/
  | shlK3
  /-- `SHL.K/4` (40_left_shift.md R105). -/
  | shlK4
  /-- `SHL.K/5` (40_left_shift.md R106). -/
  | shlK5
  /-- `SHL.K/6` (40_left_shift.md R107). -/
  | shlK6
  /-- `SHL.K/7` (40_left_shift.md R108). -/
  | shlK7
  /-- `SHL.K/8` (40_left_shift.md R109). -/
  | shlK8
  /-- `SHL.K/9` (40_left_shift.md R110). -/
  | shlK9
  /-- `SHL.K/10` (40_left_shift.md R111). -/
  | shlK10
  /-- `SHL.K/11` (40_left_shift.md R112). -/
  | shlK11
  /-- `SHL.K/12` (40_left_shift.md R113). -/
  | shlK12
  /-- `SHL.K/13` (40_left_shift.md R114). -/
  | shlK13
  /-- `SHL.K/14` (40_left_shift.md R115). -/
  | shlK14
  /-- `SHL.K/15` (40_left_shift.md R116). -/
  | shlK15
  /-- `SHL.K/16` (40_left_shift.md R117). -/
  | shlK16
  /-- `SHL.K/24` (40_left_shift.md R118). -/
  | shlK24
  /-- `SHL.K/DEC`, left by a decomposition distance (40_left_shift.md R119). -/
  | shlKDec (d : Dist)
  /-- `SHR.K/0` (41_right_shift.md R141). -/
  | shrK0
  /-- `SHR.K/1` (41_right_shift.md R142). -/
  | shrK1
  /-- `SHR.K/2` (41_right_shift.md R143). -/
  | shrK2
  /-- `SHR.K/3` (41_right_shift.md R144). -/
  | shrK3
  /-- `SHR.K/4` (41_right_shift.md R145). -/
  | shrK4
  /-- `SHR.K/5` (41_right_shift.md R146). -/
  | shrK5
  /-- `SHR.K/6` (41_right_shift.md R147). -/
  | shrK6
  /-- `SHR.K/7` (41_right_shift.md R148). -/
  | shrK7
  /-- `SHR.K/8` (41_right_shift.md R149). -/
  | shrK8
  /-- `SHR.K/9` (41_right_shift.md R150). -/
  | shrK9
  /-- `SHR.K/10` (41_right_shift.md R151). -/
  | shrK10
  /-- `SHR.K/11` (41_right_shift.md R152). -/
  | shrK11
  /-- `SHR.K/12` (41_right_shift.md R153). -/
  | shrK12
  /-- `SHR.K/13` (41_right_shift.md R154). -/
  | shrK13
  /-- `SHR.K/14` (41_right_shift.md R155). -/
  | shrK14
  /-- `SHR.K/15` (41_right_shift.md R156). -/
  | shrK15
  /-- `SHR.K/16` (41_right_shift.md R157). -/
  | shrK16
  /-- `SHR.K/24` (41_right_shift.md R158). -/
  | shrK24
  /-- `SHR.K/DEC`, right by a decomposition distance (41_right_shift.md R159). -/
  | shrKDec (d : Dist)
  /-- `SHL.R`, left by the distance on `req_dist` (44_decomposition_dispatch.md R201). -/
  | shlR
  /-- `SHR.R`, right by the distance on `req_dist` (44_decomposition_dispatch.md R202). -/
  | shrR
deriving DecidableEq, Repr

end Sys2Proof
end

