-- ==== Sys2Proof/WellFormed.lean ====
section
/-! DEFINITION. Which commands are well formed: those that a table row stands for (30_encoding.md R73, R80). -/

namespace Sys2Proof

/-- The decomposition distances of the opcode table: 17..23 and 25..255 (30_encoding.md R73, last row). -/
def isDecDist (d : Dist) : Bool := 17 ≤ d.toNat && d.toNat != 24

/-- A command is well formed when its distance operand is one its table rows hold; commands with no operand always are. -/
def Instr.wf : Instr → Bool
  | .shlKDec d => isDecDist d
  | .shrKDec d => isDecDist d
  | .shlK0 | .shlK1 | .shlK2 | .shlK3 | .shlK4 | .shlK5 | .shlK6 | .shlK7 | .shlK8 => true
  | .shlK9 | .shlK10 | .shlK11 | .shlK12 | .shlK13 | .shlK14 | .shlK15 | .shlK16 | .shlK24 => true
  | .shrK0 | .shrK1 | .shrK2 | .shrK3 | .shrK4 | .shrK5 | .shrK6 | .shrK7 | .shrK8 => true
  | .shrK9 | .shrK10 | .shrK11 | .shrK12 | .shrK13 | .shrK14 | .shrK15 | .shrK16 | .shrK24 => true
  | .shlR => true
  | .shrR => true

end Sys2Proof
end

