-- ==== Sys2Proof/Decode.lean ====
section
/-! DEFINITION. The command word: its fields, the decoder, the encoder and the opcode table (30_encoding.md R65 to
R74, R79, R80). -/

namespace Sys2Proof

/-! The fields of `CMD` (30_encoding.md R65). -/

/-- `RSV`, bits 15:10; must be zero (R69). -/
def rsvField (w : Cmd) : BitVec 6 := w.extractLsb' 10 6
/-- `SRC`, bit 9: 0 for the K form, 1 for the R form (R68). -/
def srcField (w : Cmd) : BitVec 1 := w.extractLsb' 9 1
/-- `DIR`, bit 8: 0 for left, 1 for right (R67). -/
def dirField (w : Cmd) : BitVec 1 := w.extractLsb' 8 1
/-- `DIST`, bits 7:0: the K form's unsigned distance (R66). -/
def distField (w : Cmd) : Dist := w.extractLsb' 0 8

/-- The command word made of its four fields: `(RSV << 10) | (SRC << 9) | (DIR << 8) | DIST` (R65). -/
def cmdWord (rsv : BitVec 6) (src dir : BitVec 1) (dist : Dist) : Cmd :=
  (rsv.setWidth 16 <<< 10) ||| (src.setWidth 16 <<< 9) ||| (dir.setWidth 16 <<< 8) ||| dist.setWidth 16

/-- The direction a direction bit names (R67). -/
def dirOfBit (b : BitVec 1) : Dir := if b = 0 then .left else .right

/-- The bit that stands for a direction (R67). -/
def bitOfDir : Dir → BitVec 1
  | .left => 0
  | .right => 1

/-- The K-form command of a direction and a distance (30_encoding.md R73). -/
def kInstr (dir : Dir) (d : Dist) : Instr :=
  match dir with
  | .left =>
    match d.toNat with
    | 0 => .shlK0
    | 1 => .shlK1
    | 2 => .shlK2
    | 3 => .shlK3
    | 4 => .shlK4
    | 5 => .shlK5
    | 6 => .shlK6
    | 7 => .shlK7
    | 8 => .shlK8
    | 9 => .shlK9
    | 10 => .shlK10
    | 11 => .shlK11
    | 12 => .shlK12
    | 13 => .shlK13
    | 14 => .shlK14
    | 15 => .shlK15
    | 16 => .shlK16
    | 24 => .shlK24
    | _ => .shlKDec d
  | .right =>
    match d.toNat with
    | 0 => .shrK0
    | 1 => .shrK1
    | 2 => .shrK2
    | 3 => .shrK3
    | 4 => .shrK4
    | 5 => .shrK5
    | 6 => .shrK6
    | 7 => .shrK7
    | 8 => .shrK8
    | 9 => .shrK9
    | 10 => .shrK10
    | 11 => .shrK11
    | 12 => .shrK12
    | 13 => .shrK13
    | 14 => .shrK14
    | 15 => .shrK15
    | 16 => .shrK16
    | 24 => .shrK24
    | _ => .shrKDec d

/-- The R-form command of a direction (30_encoding.md R72). -/
def rInstr : Dir → Instr
  | .left => .shlR
  | .right => .shrR

/-- Why a word names no command of the opcode map (30_encoding.md R74 (1) and (2)). Both give code ILLEGAL
(60_exceptions.md R235). The other two causes of R74 depend on the parameters and concern words that do name a
command: `Machine.decodeErr` reports them. -/
inductive DecodeRefusal where
  /-- `RSV` is not zero (R69). -/
  | reservedBits
  /-- An R form with a nonzero `DIST` (R65). -/
  | runTimeDistance
deriving DecidableEq, Repr

/-- What the decoder answers. -/
inductive Decoded where
  /-- The word is this command. -/
  | command (i : Instr)
  /-- The word names no command. -/
  | illegal (why : DecodeRefusal)
deriving DecidableEq, Repr

/-- The decoder: total on every 16-bit word, reading `RSV`, `SRC`, `DIR` and `DIST` and nothing else (R71, R72, R79). -/
def decode (w : Cmd) : Decoded :=
  if rsvField w ≠ 0 then .illegal .reservedBits
  else if srcField w = 1 then
    if distField w ≠ 0 then .illegal .runTimeDistance
    else .command (rInstr (dirOfBit (dirField w)))
  else .command (kInstr (dirOfBit (dirField w)) (distField w))

/-- The host's question about the decoder: the command it reads from a table row's word `w` of `nbits` bits. A decoder
always consumes 16 bits (R71); the bits above `nbits` are 0. -/
def decodeTableWord (nbits w : Nat) : Option Instr :=
  match decode (BitVec.ofNat 16 (w % 2 ^ nbits)) with
  | .command i => some i
  | .illegal _ => none

/-- The encoder: the command word of each command, from the fields of R65 and the map of R72 and R73. -/
def encode : Instr → Cmd
  | .shlK0 => cmdWord 0 0 0 0
  | .shlK1 => cmdWord 0 0 0 1
  | .shlK2 => cmdWord 0 0 0 2
  | .shlK3 => cmdWord 0 0 0 3
  | .shlK4 => cmdWord 0 0 0 4
  | .shlK5 => cmdWord 0 0 0 5
  | .shlK6 => cmdWord 0 0 0 6
  | .shlK7 => cmdWord 0 0 0 7
  | .shlK8 => cmdWord 0 0 0 8
  | .shlK9 => cmdWord 0 0 0 9
  | .shlK10 => cmdWord 0 0 0 10
  | .shlK11 => cmdWord 0 0 0 11
  | .shlK12 => cmdWord 0 0 0 12
  | .shlK13 => cmdWord 0 0 0 13
  | .shlK14 => cmdWord 0 0 0 14
  | .shlK15 => cmdWord 0 0 0 15
  | .shlK16 => cmdWord 0 0 0 16
  | .shlK24 => cmdWord 0 0 0 24
  | .shlKDec d => cmdWord 0 0 0 d
  | .shrK0 => cmdWord 0 0 1 0
  | .shrK1 => cmdWord 0 0 1 1
  | .shrK2 => cmdWord 0 0 1 2
  | .shrK3 => cmdWord 0 0 1 3
  | .shrK4 => cmdWord 0 0 1 4
  | .shrK5 => cmdWord 0 0 1 5
  | .shrK6 => cmdWord 0 0 1 6
  | .shrK7 => cmdWord 0 0 1 7
  | .shrK8 => cmdWord 0 0 1 8
  | .shrK9 => cmdWord 0 0 1 9
  | .shrK10 => cmdWord 0 0 1 10
  | .shrK11 => cmdWord 0 0 1 11
  | .shrK12 => cmdWord 0 0 1 12
  | .shrK13 => cmdWord 0 0 1 13
  | .shrK14 => cmdWord 0 0 1 14
  | .shrK15 => cmdWord 0 0 1 15
  | .shrK16 => cmdWord 0 0 1 16
  | .shrK24 => cmdWord 0 0 1 24
  | .shrKDec d => cmdWord 0 0 1 d
  | .shlR => cmdWord 0 1 0 0
  | .shrR => cmdWord 0 1 1 0

/-- One row of the opcode table: a word `w` matches it when `w & mask = pattern` (R80). -/
structure OpRow where
  /-- The row's mnemonic in spec/opcode_table.json. -/
  mnemonic : String
  /-- The row's `match`. -/
  pattern : Cmd
  /-- The row's `mask`. -/
  mask : Cmd
deriving DecidableEq, Repr

/-- R80: a row matches a word. -/
def OpRow.hits (row : OpRow) (w : Cmd) : Bool := (w &&& row.mask) == row.pattern

/-- The rows for the distances with rules of their own, in one direction (R80). -/
def exactRows (mnemonicPrefix : String) (base : Cmd) : List OpRow :=
  [0, 1, 2, 3, 4, 5, 6, 7, 8, 9, 10, 11, 12, 13, 14, 15, 16, 24].map fun d =>
    { mnemonic := mnemonicPrefix ++ "_" ++ toString d, pattern := base ||| BitVec.ofNat 16 d, mask := 0xFFFF }

/-- The nine rows of the decomposition distances, in one direction (R80). -/
def decRows (mnemonicPrefix : String) (base : Cmd) : List OpRow :=
  [(0x11, 0xFFFF), (0x12, 0xFFFE), (0x14, 0xFFFC), (0x19, 0xFFFF), (0x1A, 0xFFFE), (0x1C, 0xFFFC), (0x20, 0xFFE0),
    (0x40, 0xFFC0), (0x80, 0xFF80)].map fun pm =>
    { mnemonic := mnemonicPrefix ++ "_DEC", pattern := base ||| pm.1, mask := pm.2 }

/-- spec/opcode_table.json as data: 56 rows (R80). -/
def opcodeTable : List OpRow :=
  exactRows "SHL.K" 0x0000 ++ decRows "SHL.K" 0x0000 ++ exactRows "SHR.K" 0x0100 ++ decRows "SHR.K" 0x0100 ++
    [{ mnemonic := "SHL.R", pattern := 0x0200, mask := 0xFFFF }, { mnemonic := "SHR.R", pattern := 0x0300, mask := 0xFFFF }]

end Sys2Proof
end

