-- ==== Sys2Proof/Config.lean ====
section
/-! DEFINITION. What an instance fixes at elaboration, and the values the spec leaves free. -/

namespace Sys2Proof

/-- The four elaboration parameters (00_scope.md R7, R8, R9; 10_state.md R33). They are raw numbers and
lists, so that an elaboration that 70_reset_and_hazards.md R266 refuses can be written down; the check is
`Machine.elaborates`. A fallback set is a list of which only membership is read. -/
structure Params where
  /-- `OPT`, the "optimized shifts" switch (R7). -/
  opt : Nat
  /-- `RTA`, the "run-time dispatch API" switch (R8). -/
  rta : Nat
  /-- `FALLBACK_L`, the left distances on the fallback path when `OPT` = 1 (R9). -/
  fallbackL : List Nat
  /-- `FALLBACK_R`, the same for the right direction (R9). -/
  fallbackR : List Nat
deriving DecidableEq, Repr

/-- The value this hardware takes for both fallback sets (00_scope.md R9). -/
def Config.thisFallback : List Nat := [1, 2, 3, 8, 24]

/-- The instance `FS32_OPT_RTA` with this hardware's fallback sets. R9 fixes the sets; `OPT` and `RTA` have no
default (R7, R8), and 1 and 1 are the model's choice for `State.reset` only.
DESIGN CHOICE (notes/assumptions/3.md): unsafe for a claim that rests on `State.reset`. -/
def Config.thisInstance : Params :=
  { opt := 1, rta := 1, fallbackL := Config.thisFallback, fallbackR := Config.thisFallback }

/-- The operation set is `FS32`, version 1; an instance is named by the options it enables (00_scope.md R2). -/
def Params.instanceName (p : Params) : String :=
  "FS32" ++ (if p.opt = 1 then "_OPT" else "") ++ (if p.rta = 1 then "_RTA" else "")

/-! The free values: the contents of the five registers a RESET leaves unspecified (10_state.md R45,
70_reset_and_hazards.md R260). They have no body, so nothing can be proved of them; the argument counts the
RESET events (notes/assumptions/2.md). -/

/-- `W` after the n-th RESET (R45). -/
opaque Config.unspecifiedW : Nat → Word32
/-- `R` after the n-th RESET (R45). -/
opaque Config.unspecifiedR : Nat → Dist
/-- `DIRL` after the n-th RESET (R45). -/
opaque Config.unspecifiedDirl : Nat → BitVec 1
/-- `KF` after the n-th RESET (R45). -/
opaque Config.unspecifiedKf : Nat → BitVec 1
/-- `ERRL` after the n-th RESET (R45). -/
opaque Config.unspecifiedErrl : Nat → BitVec 2

end Sys2Proof
end

