-- ==== Sys2Proof/Machine/State.lean ====
section
/-! DEFINITION. The state of the machine: the controller registers, the ports, the parameters and the host's side
(10_state.md R33, R36, R46, R47), as plain data. -/

namespace Sys2Proof.Machine

/-- `CTL` = `IDLE`: the block holds no request (10_state.md R36, R37). -/
abbrev ctlIdle : BitVec 2 := 0
/-- `CTL` = `RUN`: it holds an accepted legal request (R37). -/
abbrev ctlRun : BitVec 2 := 1
/-- `CTL` = `RESP`: it presents a complete response (R37). -/
abbrev ctlResp : BitVec 2 := 2

/-- Error code OK (60_exceptions.md R230). -/
abbrev errOk : BitVec 2 := 0
/-- Error code ILLEGAL (R230, R235). -/
abbrev errIllegal : BitVec 2 := 1
/-- Error code NO_RUNTIME (R230, R233). -/
abbrev errNoRuntime : BitVec 2 := 2
/-- Error code NO_TRANSFORM (R230, R234). -/
abbrev errNoTransform : BitVec 2 := 3

/-- The levels on the block's input ports (10_state.md R46). The block reads them and never drives them. -/
structure Ports where
  /-- `rst`: reset request. -/
  rst : Bool
  /-- `req_valid`: the host offers a request. -/
  reqValid : Bool
  /-- `req_cmd`: the command word. -/
  reqCmd : Cmd
  /-- `req_value`: the operand value. -/
  reqValue : Word32
  /-- `req_dist`: the run-time distance, read for an R form only. -/
  reqDist : Dist
  /-- `rsp_ready`: the host takes the response. -/
  rspReady : Bool
deriving DecidableEq, Repr

/-- The input ports with nothing offered, nothing taken and no reset requested. -/
def Ports.quiet : Ports :=
  { rst := false, reqValid := false, reqCmd := 0, reqValue := 0, reqDist := 0, rspReady := false }

/-- What the host receives at TAKE, as one indivisible transfer (44_decomposition_dispatch.md R206, 20_memory.md R53). -/
structure Response where
  /-- `rsp_value`. -/
  value : Word32
  /-- `rsp_err`. -/
  err : BitVec 2
deriving DecidableEq, Repr

/-- The state. The block has no general register, program counter, flag, memory or mode (10_state.md R30 to R35,
20_memory.md R50, 60_exceptions.md R243), so nothing stands for one. -/
structure State where
  /-- The elaboration parameters. No event writes them (R33, R48). -/
  params : Params
  /-- `CTL`: controller phase (R36, R37). -/
  ctl : BitVec 2
  /-- `W`: the operand, then each partial result, then the result (R36, R38). -/
  w : Word32
  /-- `R`: remaining distance (R36, R39). -/
  r : Dist
  /-- `DIRL`: latched direction, 0 left and 1 right (R36, R40). -/
  dirl : BitVec 1
  /-- `KF`: latched form, 1 for a K form and 0 for an R form (R36, R41). -/
  kf : BitVec 1
  /-- `ERRL`: latched error code (R36, R42). -/
  errl : BitVec 2
  /-- The levels on the input ports (R46). -/
  ports : Ports
  /-- The HOST agent (R47): the port levels it will drive, one entry a step; when the list is empty the levels stay
  as they are. The model's own field (notes/assumptions/4.md). -/
  hostMoves : List Ports
  /-- The HOST agent: the responses it has received by TAKE, oldest first (R206). The model's own field. -/
  taken : List Response
  /-- Whether a RESET has happened since power-up (70_reset_and_hazards.md R262). The model's own field. -/
  everReset : Bool
  /-- How many times a RESET has left registers unspecified: the argument of the next free values of `Config`. The
  model's own field (notes/assumptions/2.md). -/
  freeCount : Nat
deriving DecidableEq, Repr

/-- Why the machine stops with a fault. -/
inductive Fault where
  /-- `CTL` holds 3: raised by any event in that phase. The spec asks for this fault (10_state.md R37). Safe: no event
  writes 3. -/
  | illegalPhase
  /-- The final selection met the DECOMP arm: raised by STEP. The spec asks for this fault (44_decomposition_dispatch.md
  R205). Safe: unreachable by a request that ACCEPT let through. -/
  | muxDecomp
  /-- The final selection met the NONE arm: raised by STEP. The spec asks for this fault (R205). Safe: unreachable by a
  request that ACCEPT let through in an accepted elaboration. -/
  | muxNone
  /-- An event other than RESET before the first RESET: raised by the step. The spec calls the power-up state stuck
  (70_reset_and_hazards.md R262; 93_implementation_defined.md section 2). Safe: the model goes nowhere from it but by
  RESET. -/
  | beforeFirstReset
deriving DecidableEq, Repr

/-- Why the machine has no behaviour. -/
inductive Refusal where
  /-- An instruction with no meaning yet; no arm of this model answers it. Safe. -/
  | notModelled (mnemonic : String)
  /-- The elaboration check fails, so no instance exists (70_reset_and_hazards.md R266, 60_exceptions.md R237): raised
  by every step. Safe: the spec forbids choosing a behaviour. -/
  | elaboration
deriving DecidableEq, Repr

/-- The output port `req_ready` (10_state.md R43). -/
def State.reqReady (s : State) : Bool := s.ctl == ctlIdle

/-- The output port `rsp_valid` (R43). -/
def State.rspValid (s : State) : Bool := s.ctl == ctlResp

/-- The output port `rsp_value`: `W` in `RESP` and no value otherwise (R43, 70_reset_and_hazards.md R271). -/
def State.rspValue (s : State) : Option Word32 := if s.ctl = ctlResp then some s.w else none

/-- The output port `rsp_err`: `ERRL` in `RESP` and no value otherwise (R43, R271). -/
def State.rspErr (s : State) : Option (BitVec 2) := if s.ctl = ctlResp then some s.errl else none

/-- An instance with parameters `p` right after RESET: `CTL` = `IDLE` (10_state.md R45, 70_reset_and_hazards.md R260).
The spec gives `W`, `R`, `DIRL`, `KF` and `ERRL` no value; the zeros are a DESIGN CHOICE (notes/assumptions/1.md,
unsafe), and so are the quiet ports (notes/assumptions/5.md). -/
def State.resetOf (p : Params) : State :=
  { params := p, ctl := ctlIdle, w := 0, r := 0, dirl := 0, kf := 0, errl := 0,
    ports := Ports.quiet, hostMoves := [], taken := [], everReset := true, freeCount := 0 }

/-- The machine right after reset, for the instance of `Config.thisInstance`. -/
def State.reset : State := State.resetOf Config.thisInstance

end Sys2Proof.Machine
end

