-- ==== Sys2Proof/Machine/Operands.lean ====
section
/-! DEFINITION. Byte lanes of a word and the operands of a command (00_scope.md R13, R21; 30_encoding.md R70;
20_memory.md R51). -/

namespace Sys2Proof.Machine

/-- Byte lane `Bi` of a word: bits 8i+7 down to 8i (00_scope.md R13). -/
def lane (v : Word32) (i : Nat) : Byte := v.extractLsb' (8 * i) 8

/-- The byte list `[B3, B2, B1, B0]` of a word, most significant byte first (R13). -/
def lanes (v : Word32) : List Byte := [lane v 3, lane v 2, lane v 1, lane v 0]

/-- The number a byte list `[Xn-1, ..., X0]` stands for, most significant byte first (R13). -/
def bytesValue (xs : List Byte) : Nat := xs.foldl (fun acc x => acc * 256 + x.toNat) 0

/-- The word `{X3, X2, X1, X0}` of a byte list: its low four bytes (R13). -/
def wordOf (xs : List Byte) : Word32 := BitVec.ofNat 32 (bytesValue xs)

/-- Byte repositioning left by 8: `{B2, B1, B0, 00}` (R21). -/
def repositionL (v : Word32) : Word32 := wordOf [lane v 2, lane v 1, lane v 0, 0]

/-- Byte repositioning right by 8: `{00, B3, B2, B1}` (R21). -/
def repositionR (v : Word32) : Word32 := wordOf [0, lane v 3, lane v 2, lane v 1]

/-- The order in which a word crosses a byte-wide path: lane B0 first, at the lowest byte address (20_memory.md R51). -/
def busBytes (v : Word32) : List Byte := [lane v 0, lane v 1, lane v 2, lane v 3]

/-- The distance of a request: the `DIST` field for a K form, `req_dist` for an R form (30_encoding.md R70). -/
def requestDist (cmd : Cmd) (reqDist : Dist) : Dist := if srcField cmd = 0 then distField cmd else reqDist

/-- `KF` of a command word: `1 - cmd[9]` (44_decomposition_dispatch.md R203). -/
def formBit (cmd : Cmd) : BitVec 1 := 1 - srcField cmd

end Sys2Proof.Machine
end

