-- ==== Sys2Proof/Machine/Fallback.lean ====
section
/-! DEFINITION. The contract functions and the generic fallback path (00_scope.md R22; 43_fallback.md R190 to R192). -/

namespace Sys2Proof.Machine

/-- `SHL32(v, d) = (v × 2^d) mod 2^32` (00_scope.md R22). -/
def shl32 (v : Word32) (d : Nat) : Word32 := BitVec.ofNat 32 (v.toNat * 2 ^ d)

/-- `SHR32(v, d) = floor(v / 2^d)` (R22). -/
def shr32 (v : Word32) (d : Nat) : Word32 := BitVec.ofNat 32 (v.toNat / 2 ^ d)

/-- The contract function of a direction (40_left_shift.md R100, 41_right_shift.md R140). -/
def shift32 : Dir → Word32 → Nat → Word32
  | .left, v, d => shl32 v d
  | .right, v, d => shr32 v d

/-- `REF_SHL` (43_fallback.md R191). -/
def refShl (x : Word32) (d : Nat) : Word32 := BitVec.ofNat 32 (x.toNat * 2 ^ d)

/-- `REF_SHR` (R192). -/
def refShr (x : Word32) (d : Nat) : Word32 := BitVec.ofNat 32 (x.toNat / 2 ^ d)

/-- `REF(dir, X, d)`: the fallback path, a pure function of its inputs (R190). -/
def refShift : Dir → Word32 → Nat → Word32
  | .left, x, d => refShl x d
  | .right, x, d => refShr x d

end Sys2Proof.Machine
end

