-- ==== Sys2Proof/Machine/Permute16.lean ====
section
/-! DEFINITION. The 16-bit byte-permute unit: pure wiring (42_permute16.md R180 to R182). -/

namespace Sys2Proof.Machine

/-- `PERM16L(X) = {X1, X0, 00, 00}` (R181). -/
def perm16L (x : Word32) : Word32 := wordOf [lane x 1, lane x 0, 0, 0]

/-- `PERM16R(X) = {00, 00, X3, X2}` (R182). -/
def perm16R (x : Word32) : Word32 := wordOf [0, 0, lane x 3, lane x 2]

/-- `PERM16(dir, X)` (R180, 44_decomposition_dispatch.md R204). -/
def perm16 : Dir → Word32 → Word32
  | .left, x => perm16L x
  | .right, x => perm16R x

end Sys2Proof.Machine
end

