-- ==== Sys2Proof/Machine/Flags.lean ====
section
/-! DEFINITION. The carry bit of the carry chains. The block has no status flag (10_state.md R32): a carry lives inside
one chain, and the chain discards it. -/

namespace Sys2Proof.Machine

/-! The single-bit carry primitives on one byte; each gives the result byte and the carry out (00_scope.md R16). -/

/-- `LSL8`: shift left, 0 in, bit 7 out (R16). -/
def lsl8 (b : Byte) : Byte × BitVec 1 := (b.extractLsb' 0 7 ++ (0 : BitVec 1), b.extractLsb' 7 1)
/-- `ROL8`: rotate left through carry (R16). -/
def rol8 (b : Byte) (c : BitVec 1) : Byte × BitVec 1 := (b.extractLsb' 0 7 ++ c, b.extractLsb' 7 1)
/-- `LSR8`: shift right, 0 in, bit 0 out (R16). -/
def lsr8 (b : Byte) : Byte × BitVec 1 := ((0 : BitVec 1) ++ b.extractLsb' 1 7, b.extractLsb' 0 1)
/-- `ROR8`: rotate right through carry (R16). -/
def ror8 (b : Byte) (c : BitVec 1) : Byte × BitVec 1 := (c ++ b.extractLsb' 1 7, b.extractLsb' 0 1)

/-- The `ROL8` steps of a left chain over bytes listed least significant first; the last carry is discarded (R17). -/
def rolChain : BitVec 1 → List Byte → List Byte
  | _, [] => []
  | c, x :: xs => (rol8 x c).1 :: rolChain (rol8 x c).2 xs

/-- A left chain over bytes listed least significant first: `LSL8`, then `ROL8` through the rest (R17). -/
def shl1ChainLow : List Byte → List Byte
  | [] => []
  | x :: xs => (lsl8 x).1 :: rolChain (lsl8 x).2 xs

/-- `shl1_chain([Xn-1, ..., X0])`: the least significant byte goes first (R17). -/
def shl1Chain (xs : List Byte) : List Byte := (shl1ChainLow xs.reverse).reverse

/-- The `ROR8` steps of a right chain, most significant byte first; the last carry is discarded (R18). -/
def rorChain : BitVec 1 → List Byte → List Byte
  | _, [] => []
  | c, x :: xs => (ror8 x c).1 :: rorChain (ror8 x c).2 xs

/-- `shr1_chain([Xn-1, ..., X0])`: `LSR8` on the most significant byte, then `ROR8` through the rest (R18). -/
def shr1Chain : List Byte → List Byte
  | [] => []
  | x :: xs => (lsr8 x).1 :: rorChain (lsr8 x).2 xs

end Sys2Proof.Machine
end

