-- ==== Sys2Proof/Machine/Nibble.lean ====
section
/-! DEFINITION. The nibble-swap-mask-xor reconstruction (00_scope.md R15, R19, R20). -/

namespace Sys2Proof.Machine

/-- `swap8(b) = {b[3:0], b[7:4]}` (R15). -/
def swap8 (b : Byte) : Byte := b.extractLsb' 0 4 ++ b.extractLsb' 4 4

/-- One output byte of `NIB4L` from the swapped byte `s` and the swapped byte `t` below it:
`((s & 0xF0) ^ t) ^ (t & 0xF0)` (R19). -/
def nibbleUp (s t : Byte) : Byte := ((s &&& 0xF0) ^^^ t) ^^^ (t &&& 0xF0)

/-- One output byte of `NIB4R` from the swapped byte `s` and the swapped byte `t` above it:
`((s & 0x0F) ^ t) ^ (t & 0x0F)` (R20). -/
def nibbleDown (s t : Byte) : Byte := ((s &&& 0x0F) ^^^ t) ^^^ (t &&& 0x0F)

/-- `NIB4L`: the bytes `[O3, O2, O1, O0]` of a 4-byte left shift by 4 (R19). -/
def nib4L (x3 x2 x1 x0 : Byte) : List Byte :=
  [nibbleUp (swap8 x3) (swap8 x2), nibbleUp (swap8 x2) (swap8 x1), nibbleUp (swap8 x1) (swap8 x0), swap8 x0 &&& 0xF0]

/-- `NIB4R`: the bytes `[O3, O2, O1, O0]` of a 4-byte logical right shift by 4 (R20). -/
def nib4R (x3 x2 x1 x0 : Byte) : List Byte :=
  [swap8 x3 &&& 0x0F, nibbleDown (swap8 x2) (swap8 x3), nibbleDown (swap8 x1) (swap8 x2), nibbleDown (swap8 x0) (swap8 x1)]

end Sys2Proof.Machine
end

