-- ==== Sys2Proof/Machine/Datapath.lean ====
section
/-! DEFINITION. The specialization datapaths: one definition for each row of the transform tables that has its own
(40_left_shift.md R105 to R116, R120; 41_right_shift.md R145 to R156, R160). Only the results are normative; the
intermediate values follow the spec's pseudocode (notes/assumptions/14.md). -/

namespace Sys2Proof.Machine

/-- `SPEC_SET`: the distances with a specialization, the same in both directions (00_scope.md R11). -/
inductive SpecDist where
  | d4 | d5 | d6 | d7 | d9 | d10 | d11 | d12 | d13 | d14 | d15
deriving DecidableEq, Repr

/-- The member of `SPEC_SET` that a distance is, if it is one (R11). -/
def specOf (d : Nat) : Option SpecDist :=
  match d with
  | 4 => some .d4
  | 5 => some .d5
  | 6 => some .d6
  | 7 => some .d7
  | 9 => some .d9
  | 10 => some .d10
  | 11 => some .d11
  | 12 => some .d12
  | 13 => some .d13
  | 14 => some .d14
  | 15 => some .d15
  | _ => none

/-- The distance of a member of `SPEC_SET`. -/
def SpecDist.toNat : SpecDist → Nat
  | .d4 => 4
  | .d5 => 5
  | .d6 => 6
  | .d7 => 7
  | .d9 => 9
  | .d10 => 10
  | .d11 => 11
  | .d12 => 12
  | .d13 => 13
  | .d14 => 14
  | .d15 => 15

/-! Left (40_left_shift.md). -/

/-- `SHL.K/4`: NIB (R105). -/
def pathL4 (v : Word32) : Word32 := wordOf (nib4L (lane v 3) (lane v 2) (lane v 1) (lane v 0))
/-- `SHL.K/5`: NIB, then one carry step across all bytes (R106). -/
def pathL5 (v : Word32) : Word32 := wordOf (shl1Chain (nib4L (lane v 3) (lane v 2) (lane v 1) (lane v 0)))
/-- `SHL.K/6`: two right-rotate passes over `[B3, B2, B1, B0, 00]`, keeping the low four bytes (R107). -/
def pathL6 (v : Word32) : Word32 := wordOf (shr1Chain (shr1Chain [lane v 3, lane v 2, lane v 1, lane v 0, 0])).tail
/-- `SHL.K/7`: one such pass (R108). -/
def pathL7 (v : Word32) : Word32 := wordOf (shr1Chain [lane v 3, lane v 2, lane v 1, lane v 0, 0]).tail
/-- `SHL.K/9`: one carry step over the low three bytes, then up one byte (R110). -/
def pathL9 (v : Word32) : Word32 := wordOf (shl1Chain [lane v 2, lane v 1, lane v 0] ++ [0])
/-- `SHL.K/10`: two carry steps, then up one byte (R111). -/
def pathL10 (v : Word32) : Word32 := wordOf (shl1Chain (shl1Chain [lane v 2, lane v 1, lane v 0]) ++ [0])
/-- `SHL.K/11`: three carry steps, then up one byte (R112). -/
def pathL11 (v : Word32) : Word32 := wordOf (shl1Chain (shl1Chain (shl1Chain [lane v 2, lane v 1, lane v 0])) ++ [0])
/-- `SHL.K/12`: up one byte, then NIB (R113). -/
def pathL12 (v : Word32) : Word32 := wordOf (nib4L (lane v 2) (lane v 1) (lane v 0) 0)
/-- `SHL.K/13`: the d = 12 pattern, then one carry step (R114). -/
def pathL13 (v : Word32) : Word32 := wordOf (shl1Chain (nib4L (lane v 2) (lane v 1) (lane v 0) 0))
/-- `SHL.K/14`: two right-rotate passes over `[B2, B1, B0, 00, 00]`, keeping the low four bytes (R115). -/
def pathL14 (v : Word32) : Word32 := wordOf (shr1Chain (shr1Chain [lane v 2, lane v 1, lane v 0, 0, 0])).tail
/-- `SHL.K/15`: one such pass (R116). -/
def pathL15 (v : Word32) : Word32 := wordOf (shr1Chain [lane v 2, lane v 1, lane v 0, 0, 0]).tail

/-- `SPECL(d, V)` (R120). -/
def specL : SpecDist → Word32 → Word32
  | .d4, v => pathL4 v
  | .d5, v => pathL5 v
  | .d6, v => pathL6 v
  | .d7, v => pathL7 v
  | .d9, v => pathL9 v
  | .d10, v => pathL10 v
  | .d11, v => pathL11 v
  | .d12, v => pathL12 v
  | .d13, v => pathL13 v
  | .d14, v => pathL14 v
  | .d15, v => pathL15 v

/-! Right (41_right_shift.md). -/

/-- `SHR.K/4`: NIB (R145). -/
def pathR4 (v : Word32) : Word32 := wordOf (nib4R (lane v 3) (lane v 2) (lane v 1) (lane v 0))
/-- `SHR.K/5`: NIB, then one carry step from the top byte down (R146). -/
def pathR5 (v : Word32) : Word32 := wordOf (shr1Chain (nib4R (lane v 3) (lane v 2) (lane v 1) (lane v 0)))
/-- `SHR.K/6`: two left-rotate passes over `[00, B3, B2, B1, B0]`, keeping the high four bytes (R147). -/
def pathR6 (v : Word32) : Word32 := wordOf (shl1Chain (shl1Chain [0, lane v 3, lane v 2, lane v 1, lane v 0])).dropLast
/-- `SHR.K/7`: one such pass (R148). -/
def pathR7 (v : Word32) : Word32 := wordOf (shl1Chain [0, lane v 3, lane v 2, lane v 1, lane v 0]).dropLast
/-- `SHR.K/9`: one carry step over the top three bytes, then down one byte (R150). -/
def pathR9 (v : Word32) : Word32 := wordOf (0 :: shr1Chain [lane v 3, lane v 2, lane v 1])
/-- `SHR.K/10`: two carry steps, then down one byte (R151). -/
def pathR10 (v : Word32) : Word32 := wordOf (0 :: shr1Chain (shr1Chain [lane v 3, lane v 2, lane v 1]))
/-- `SHR.K/11`: three carry steps, then down one byte (R152). -/
def pathR11 (v : Word32) : Word32 := wordOf (0 :: shr1Chain (shr1Chain (shr1Chain [lane v 3, lane v 2, lane v 1])))
/-- `SHR.K/12`: down one byte, then NIB (R153). -/
def pathR12 (v : Word32) : Word32 := wordOf (nib4R 0 (lane v 3) (lane v 2) (lane v 1))
/-- `SHR.K/13`: the d = 12 pattern, then one carry step (R154). -/
def pathR13 (v : Word32) : Word32 := wordOf (shr1Chain (nib4R 0 (lane v 3) (lane v 2) (lane v 1)))
/-- `SHR.K/14`: two left-rotate passes over `[00, 00, B3, B2, B1]`, keeping the high four bytes (R155). -/
def pathR14 (v : Word32) : Word32 := wordOf (shl1Chain (shl1Chain [0, 0, lane v 3, lane v 2, lane v 1])).dropLast
/-- `SHR.K/15`: one such pass (R156). -/
def pathR15 (v : Word32) : Word32 := wordOf (shl1Chain [0, 0, lane v 3, lane v 2, lane v 1]).dropLast

/-- `SPECR(d, V)` (R160). -/
def specR : SpecDist → Word32 → Word32
  | .d4, v => pathR4 v
  | .d5, v => pathR5 v
  | .d6, v => pathR6 v
  | .d7, v => pathR7 v
  | .d9, v => pathR9 v
  | .d10, v => pathR10 v
  | .d11, v => pathR11 v
  | .d12, v => pathR12 v
  | .d13, v => pathR13 v
  | .d14, v => pathR14 v
  | .d15, v => pathR15 v

/-- The specialization of a direction (44_decomposition_dispatch.md R205). -/
def specPath : Dir → SpecDist → Word32 → Word32
  | .left, k, v => specL k v
  | .right, k, v => specR k v

end Sys2Proof.Machine
end

