-- ==== Sys2Proof/Machine/Selector.lean ====
section
/-! DEFINITION. The distance selector `SEL`, `RESOLVE` and the elaboration check (30_encoding.md R75, R76;
70_reset_and_hazards.md R265, R266). -/

namespace Sys2Proof.Machine

/-- The families `SEL` chooses among (30_encoding.md R75). -/
inductive Family where
  /-- The value unchanged. -/
  | ident
  /-- The generic fallback path. -/
  | fallback
  /-- The byte-permute unit. -/
  | perm16
  /-- The specialization of a distance of `SPEC_SET`. -/
  | spec (k : SpecDist)
  /-- The decomposition rule. -/
  | decomp
  /-- No defined transform. -/
  | none
deriving DecidableEq, Repr

/-- `FALLBACK_dir` (R75). -/
def fallbackSet (p : Params) : Dir → List Nat
  | .left => p.fallbackL
  | .right => p.fallbackR

/-- `SEL(dir, d)`: the family that computes the shift (30_encoding.md R75). -/
def sel (p : Params) (dir : Dir) (d : Nat) : Family :=
  if p.opt = 0 then .fallback
  else if d = 0 then .ident
  else if d = 16 then .perm16
  else if d ∈ fallbackSet p dir then .fallback
  else
    match specOf d with
    | some k => .spec k
    | none => if 16 < d then .decomp else .none

/-- `RESOLVE` along at most `fuel` calls (30_encoding.md R76). -/
def resolveWithin (p : Params) (dir : Dir) : Nat → Nat → Bool
  | 0, _ => false
  | fuel + 1, d =>
    match sel p dir d with
    | .none => false
    | .decomp => resolveWithin p dir fuel (d - 16)
    | .ident | .fallback | .perm16 | .spec _ => true

/-- `RESOLVE(dir, d)`: true for OK, false for NONE. Each call lowers d by 16, so d / 16 + 1 calls are enough (R76). -/
def resolve (p : Params) (dir : Dir) (d : Nat) : Bool := resolveWithin p dir (d / 16 + 1) d

/-- Which values a fallback set may hold: {1..15} ∪ {17..255} (00_scope.md R9, R266 (b)). -/
def fallbackValue (d : Nat) : Bool := (1 ≤ d && d ≤ 15) || (17 ≤ d && d ≤ 255)

/-- R266 (c): with `OPT` = 1 and `RTA` = 1 the run-time dispatcher has a transform for every r in 1..15. -/
def runTimeCovered (p : Params) : Bool :=
  (List.range 16).all fun r => r == 0 || (sel p .left r != .none && sel p .right r != .none)

/-- The elaboration check: true when the elaboration produces an instance (70_reset_and_hazards.md R266). -/
def elaborates (p : Params) : Bool :=
  p.opt ≤ 1 && p.rta ≤ 1 && p.fallbackL.all fallbackValue && p.fallbackR.all fallbackValue &&
    (!(p.opt == 1 && p.rta == 1) || runTimeCovered p)

end Sys2Proof.Machine
end

