-- ==== Sys2Proof/Machine/Ops.lean ====
section
/-! DEFINITION. The shared operations: the error code of a word, the events ACCEPT, STEP, TAKE and RESET, the error
response, and the life of a request from one event to the next (44_decomposition_dispatch.md R203 to R206;
60_exceptions.md R231, R232; 70_reset_and_hazards.md R260). -/

namespace Sys2Proof.Machine

/-! ## The error code -/

/-- `DECODE_ERR(cmd)`: the one code a word reports; the first cause in this order wins (60_exceptions.md R231). -/
def decodeErr (p : Params) (cmd : Cmd) : BitVec 2 :=
  if rsvField cmd ≠ 0 then errIllegal
  else if srcField cmd = 1 ∧ distField cmd ≠ 0 then errIllegal
  else if srcField cmd = 1 ∧ p.rta = 0 then errNoRuntime
  else if srcField cmd = 0 ∧ resolve p (dirOfBit (dirField cmd)) (distField cmd).toNat = false then errNoTransform
  else errOk

/-! ## ACCEPT -/

/-- The error response, this block's only exception entry (60_exceptions.md R232, R240): `W` and `R` become 0, `ERRL`
the code, and the block goes to `RESP` with no STEP. `DIRL` and `KF` are latched as for any word
(44_decomposition_dispatch.md R203). -/
def State.errorResponse (cmd : Cmd) (e : BitVec 2) (s : State) : State :=
  { s with dirl := dirField cmd, kf := formBit cmd, w := 0, r := 0, errl := e, ctl := ctlResp }

/-- Latching a legal request: every controller register is written (R203). -/
def State.latch (cmd : Cmd) (value : Word32) (dist : Dist) (s : State) : State :=
  { s with dirl := dirField cmd, kf := formBit cmd, w := value, r := requestDist cmd dist, errl := errOk, ctl := ctlRun }

/-- ACCEPT(cmd, value, dist), for a state in `IDLE` (44_decomposition_dispatch.md R203). -/
def accept (cmd : Cmd) (value : Word32) (dist : Dist) (s : State) : State :=
  if decodeErr s.params cmd ≠ errOk then s.errorResponse cmd (decodeErr s.params cmd)
  else s.latch cmd value dist

/-! ## STEP -/

/-- `DECOMPOSE(KF, dir, r)`: a K form decomposes when `SEL` gives DECOMP, an R form when r is at least 16 (R204). -/
def decomposes (p : Params) (kf : BitVec 1) (dir : Dir) (r : Nat) : Bool :=
  if kf = 1 then sel p dir r == .decomp else 16 ≤ r

/-- `APPLY(dir, r, X)`: the output of the one family that `SEL(dir, r)` selects; the two unreachable arms fault (R205). -/
def apply (p : Params) (dir : Dir) (r : Nat) (x : Word32) : Except Fault Word32 :=
  match sel p dir r with
  | .ident => .ok x
  | .fallback => .ok (refShift dir x r)
  | .perm16 => .ok (perm16 dir x)
  | .spec k => .ok (specPath dir k x)
  | .decomp => .error .muxDecomp
  | .none => .error .muxNone

/-- A permute STEP on remaining distance `r`: the permute unit is applied and 16 taken off; `CTL` stays `RUN` (R204). -/
def State.permuted (dir : Dir) (r : Dist) (s : State) : State := { s with w := perm16 dir s.w, r := r - 16 }

/-- The final STEP with result `v`: `R` becomes 0 and `CTL` `RESP` (R204). -/
def State.responding (v : Word32) (s : State) : State := { s with w := v, r := 0, ctl := ctlResp }

/-- STEP, for a state in `RUN`, with form `kf`, direction `dir` and remaining distance `r` (R204). -/
def stepEvent (kf : BitVec 1) (dir : Dir) (r : Dist) (s : State) : Host.Outcome State Fault Refusal :=
  if s.params.opt = 1 ∧ decomposes s.params kf dir r.toNat = true then .next (s.permuted dir r)
  else
    match apply s.params dir r.toNat s.w with
    | .ok v => .next (s.responding v)
    | .error e => .fault e

/-! ## TAKE -/

/-- TAKE, for a state in `RESP`: the host receives `(W, ERRL)` and `CTL` becomes `IDLE`; the other registers keep their
contents (R206). -/
def State.handOver (s : State) : State := { s with ctl := ctlIdle, taken := s.taken ++ [{ value := s.w, err := s.errl }] }

/-- The phase `RESP`: TAKE when the host is ready; otherwise the response is held unchanged, with no time limit (R206,
70_reset_and_hazards.md R269). -/
def takeOrHold (s : State) : State := if s.ports.rspReady then s.handOver else s

/-! ## RESET -/

/-- RESET: `CTL` becomes `IDLE` and the parameters keep their values. R260 says that RESET writes no other register and
that `W`, `R`, `DIRL`, `KF` and `ERRL` are unspecified after it; the model takes the second, which promises less: they
become free values. DEDUCED (notes/assumptions/2.md): safe. -/
def State.resetEvent (s : State) : State :=
  { s with
    ctl := ctlIdle
    w := Config.unspecifiedW s.freeCount
    r := Config.unspecifiedR s.freeCount
    dirl := Config.unspecifiedDirl s.freeCount
    kf := Config.unspecifiedKf s.freeCount
    errl := Config.unspecifiedErrl s.freeCount
    everReset := true
    freeCount := s.freeCount + 1 }

/-! ## The host's next move -/

/-- The HOST drives its next levels on the input ports; with none left, the levels stay (10_state.md R47; notes/assumptions/4.md). -/
def State.hostDrives (s : State) : State :=
  match s.hostMoves with
  | [] => s
  | p :: rest => { s with ports := p, hostMoves := rest }

/-! ## The life of a request -/

/-- The event that a K-form command of direction `dir` and distance `d` is at: ACCEPT of its word in `IDLE`, its STEP in
`RUN`, where it is the request in flight, and TAKE or the wait for it in `RESP` (R200, R203 to R206). `CTL` = 3 faults
(10_state.md R37). -/
def kRequest (dir : Dir) (d : Dist) (s : State) : Host.Outcome State Fault Refusal :=
  if s.ctl = ctlIdle then .next (accept (cmdWord 0 0 (bitOfDir dir) d) s.ports.reqValue s.ports.reqDist s)
  else if s.ctl = ctlRun then stepEvent 1 dir d s
  else if s.ctl = ctlResp then .next (takeOrHold s)
  else .fault .illegalPhase

/-- The same for an R-form command of direction `dir`. Its word holds no distance: in `RUN` it works on what the register
`R` holds (R201, R202, R203 to R206). -/
def rRequest (dir : Dir) (s : State) : Host.Outcome State Fault Refusal :=
  if s.ctl = ctlIdle then .next (accept (cmdWord 0 1 (bitOfDir dir) 0) s.ports.reqValue s.ports.reqDist s)
  else if s.ctl = ctlRun then stepEvent 0 dir s.r s
  else if s.ctl = ctlResp then .next (takeOrHold s)
  else .fault .illegalPhase

end Sys2Proof.Machine
end

