-- ==== Sys2Proof/Machine/LeftShift.lean ====
section
/-! DEFINITION. The meanings of the left-shift K forms (40_left_shift.md R101 to R119). Each is the life of its own request
(`kRequest`): ACCEPT of its word in `IDLE`; in `RUN` the STEP at its distance, whose datapath `SEL` selects; TAKE in
`RESP`. With `OPT` = 0, or where the parameters put the distance in `FALLBACK_L`, that datapath is the fallback path
(30_encoding.md R75); a word that has no transform gets the error response at ACCEPT (60_exceptions.md R234). No meaning
reads or writes a flag (10_state.md R32). -/

namespace Sys2Proof.Machine

/-- `SHL.K/0`, word `0x0000`: identity (IDENT) (R101). -/
def execShlK0 (s : State) : Host.Outcome State Fault Refusal := kRequest .left 0 s

/-- `SHL.K/1`, word `0x0001`: generic fallback (R102). Outside `FALLBACK_L` the word is a NO_TRANSFORM error. -/
def execShlK1 (s : State) : Host.Outcome State Fault Refusal := kRequest .left 1 s

/-- `SHL.K/2`, word `0x0002`: generic fallback (R103). Outside `FALLBACK_L` the word is a NO_TRANSFORM error. -/
def execShlK2 (s : State) : Host.Outcome State Fault Refusal := kRequest .left 2 s

/-- `SHL.K/3`, word `0x0003`: generic fallback (R104). Outside `FALLBACK_L` the word is a NO_TRANSFORM error. -/
def execShlK3 (s : State) : Host.Outcome State Fault Refusal := kRequest .left 3 s

/-- `SHL.K/4`, word `0x0004`: nibble-swap-mask-xor (NIB) (R105). -/
def execShlK4 (s : State) : Host.Outcome State Fault Refusal := kRequest .left 4 s

/-- `SHL.K/5`, word `0x0005`: NIB, then one carry step (R106). -/
def execShlK5 (s : State) : Host.Outcome State Fault Refusal := kRequest .left 5 s

/-- `SHL.K/6`, word `0x0006`: rotate chain (ROT), two passes (R107). -/
def execShlK6 (s : State) : Host.Outcome State Fault Refusal := kRequest .left 6 s

/-- `SHL.K/7`, word `0x0007`: rotate chain (ROT), one pass (R108). -/
def execShlK7 (s : State) : Host.Outcome State Fault Refusal := kRequest .left 7 s

/-- `SHL.K/8`, word `0x0008`: generic fallback (R109). Outside `FALLBACK_L` the word is a NO_TRANSFORM error. -/
def execShlK8 (s : State) : Host.Outcome State Fault Refusal := kRequest .left 8 s

/-- `SHL.K/9`, word `0x0009`: byte reposition and one carry step (R110). -/
def execShlK9 (s : State) : Host.Outcome State Fault Refusal := kRequest .left 9 s

/-- `SHL.K/10`, word `0x000A`: byte reposition and two carry steps (R111). -/
def execShlK10 (s : State) : Host.Outcome State Fault Refusal := kRequest .left 10 s

/-- `SHL.K/11`, word `0x000B`: byte reposition and three carry steps (R112). -/
def execShlK11 (s : State) : Host.Outcome State Fault Refusal := kRequest .left 11 s

/-- `SHL.K/12`, word `0x000C`: byte reposition and NIB (R113). -/
def execShlK12 (s : State) : Host.Outcome State Fault Refusal := kRequest .left 12 s

/-- `SHL.K/13`, word `0x000D`: byte reposition, NIB and one carry step (R114). -/
def execShlK13 (s : State) : Host.Outcome State Fault Refusal := kRequest .left 13 s

/-- `SHL.K/14`, word `0x000E`: byte reposition and ROT, two passes (R115). -/
def execShlK14 (s : State) : Host.Outcome State Fault Refusal := kRequest .left 14 s

/-- `SHL.K/15`, word `0x000F`: byte reposition and ROT, one pass (R116). -/
def execShlK15 (s : State) : Host.Outcome State Fault Refusal := kRequest .left 15 s

/-- `SHL.K/16`, word `0x0010`: the byte-permute unit (PERM16) (R117). -/
def execShlK16 (s : State) : Host.Outcome State Fault Refusal := kRequest .left 16 s

/-- `SHL.K/24`, word `0x0018`: generic fallback (R118). Outside `FALLBACK_L` the decomposition rule applies. -/
def execShlK24 (s : State) : Host.Outcome State Fault Refusal := kRequest .left 24 s

/-- `SHL.K/DEC`, left by a decomposition distance `d`: in `RUN`, one permute by 16 that leaves the left shift by `d - 16` in
flight (R119). -/
def execShlKDec (d : Dist) (s : State) : Host.Outcome State Fault Refusal := kRequest .left d s

end Sys2Proof.Machine
end

