-- ==== Sys2Proof/Machine/RightShift.lean ====
section
/-! DEFINITION. The meanings of the right-shift K forms (41_right_shift.md R141 to R159). Each is the life of its own request
(`kRequest`): ACCEPT of its word in `IDLE`; in `RUN` the STEP at its distance, whose datapath `SEL` selects; TAKE in
`RESP`. With `OPT` = 0, or where the parameters put the distance in `FALLBACK_R`, that datapath is the fallback path
(30_encoding.md R75); a word that has no transform gets the error response at ACCEPT (60_exceptions.md R234). No meaning
reads or writes a flag (10_state.md R32). -/

namespace Sys2Proof.Machine

/-- `SHR.K/0`, word `0x0100`: identity (IDENT) (R141). -/
def execShrK0 (s : State) : Host.Outcome State Fault Refusal := kRequest .right 0 s

/-- `SHR.K/1`, word `0x0101`: generic fallback (R142). Outside `FALLBACK_R` the word is a NO_TRANSFORM error. -/
def execShrK1 (s : State) : Host.Outcome State Fault Refusal := kRequest .right 1 s

/-- `SHR.K/2`, word `0x0102`: generic fallback (R143). Outside `FALLBACK_R` the word is a NO_TRANSFORM error. -/
def execShrK2 (s : State) : Host.Outcome State Fault Refusal := kRequest .right 2 s

/-- `SHR.K/3`, word `0x0103`: generic fallback (R144). Outside `FALLBACK_R` the word is a NO_TRANSFORM error. -/
def execShrK3 (s : State) : Host.Outcome State Fault Refusal := kRequest .right 3 s

/-- `SHR.K/4`, word `0x0104`: nibble-swap-mask-xor (NIB) (R145). -/
def execShrK4 (s : State) : Host.Outcome State Fault Refusal := kRequest .right 4 s

/-- `SHR.K/5`, word `0x0105`: NIB, then one carry step (R146). -/
def execShrK5 (s : State) : Host.Outcome State Fault Refusal := kRequest .right 5 s

/-- `SHR.K/6`, word `0x0106`: rotate chain (ROT), two passes (R147). -/
def execShrK6 (s : State) : Host.Outcome State Fault Refusal := kRequest .right 6 s

/-- `SHR.K/7`, word `0x0107`: rotate chain (ROT), one pass (R148). -/
def execShrK7 (s : State) : Host.Outcome State Fault Refusal := kRequest .right 7 s

/-- `SHR.K/8`, word `0x0108`: generic fallback (R149). Outside `FALLBACK_R` the word is a NO_TRANSFORM error. -/
def execShrK8 (s : State) : Host.Outcome State Fault Refusal := kRequest .right 8 s

/-- `SHR.K/9`, word `0x0109`: byte reposition and one carry step (R150). -/
def execShrK9 (s : State) : Host.Outcome State Fault Refusal := kRequest .right 9 s

/-- `SHR.K/10`, word `0x010A`: byte reposition and two carry steps (R151). -/
def execShrK10 (s : State) : Host.Outcome State Fault Refusal := kRequest .right 10 s

/-- `SHR.K/11`, word `0x010B`: byte reposition and three carry steps (R152). -/
def execShrK11 (s : State) : Host.Outcome State Fault Refusal := kRequest .right 11 s

/-- `SHR.K/12`, word `0x010C`: byte reposition and NIB (R153). -/
def execShrK12 (s : State) : Host.Outcome State Fault Refusal := kRequest .right 12 s

/-- `SHR.K/13`, word `0x010D`: byte reposition, NIB and one carry step (R154). -/
def execShrK13 (s : State) : Host.Outcome State Fault Refusal := kRequest .right 13 s

/-- `SHR.K/14`, word `0x010E`: byte reposition and ROT, two passes (R155). -/
def execShrK14 (s : State) : Host.Outcome State Fault Refusal := kRequest .right 14 s

/-- `SHR.K/15`, word `0x010F`: byte reposition and ROT, one pass (R156). -/
def execShrK15 (s : State) : Host.Outcome State Fault Refusal := kRequest .right 15 s

/-- `SHR.K/16`, word `0x0110`: the byte-permute unit (PERM16) (R157). -/
def execShrK16 (s : State) : Host.Outcome State Fault Refusal := kRequest .right 16 s

/-- `SHR.K/24`, word `0x0118`: generic fallback (R158). Outside `FALLBACK_R` the decomposition rule applies. -/
def execShrK24 (s : State) : Host.Outcome State Fault Refusal := kRequest .right 24 s

/-- `SHR.K/DEC`, right by a decomposition distance `d`: in `RUN`, one permute by 16 that leaves the right shift by `d - 16` in
flight (R159). -/
def execShrKDec (d : Dist) (s : State) : Host.Outcome State Fault Refusal := kRequest .right d s

end Sys2Proof.Machine
end

