-- ==== Sys2Proof/Machine/RunTime.lean ====
section
/-! DEFINITION. The meanings of the run-time commands (44_decomposition_dispatch.md R201, R202). With `RTA` = 0 their
words get the error response NO_RUNTIME at ACCEPT (60_exceptions.md R233). -/

namespace Sys2Proof.Machine

/-- `SHL.R`, word `0x0200`: left by `req_dist`. In `RUN`, with `OPT` = 1, one permute by 16 while `R` is at least 16 and
then the selection at `R` in 0..15; with `OPT` = 0, one fallback STEP (R201). -/
def execShlR (s : State) : Host.Outcome State Fault Refusal := rRequest .left s

/-- `SHR.R`, word `0x0300`: right by `req_dist`, in the same way (R202). -/
def execShrR (s : State) : Host.Outcome State Fault Refusal := rRequest .right s

end Sys2Proof.Machine
end

