-- ==== Sys2Proof/Machine/Dispatch.lean ====
section
/-! DEFINITION. The dispatch: one arm for each command. -/

namespace Sys2Proof.Machine

def exec (i : Instr) (s : State) : Host.Outcome State Fault Refusal :=
  match i with
  | .shlK0 => Sys2Proof.Machine.execShlK0 s
  | .shlK1 => Sys2Proof.Machine.execShlK1 s
  | .shlK2 => Sys2Proof.Machine.execShlK2 s
  | .shlK3 => Sys2Proof.Machine.execShlK3 s
  | .shlK4 => Sys2Proof.Machine.execShlK4 s
  | .shlK5 => Sys2Proof.Machine.execShlK5 s
  | .shlK6 => Sys2Proof.Machine.execShlK6 s
  | .shlK7 => Sys2Proof.Machine.execShlK7 s
  | .shlK8 => Sys2Proof.Machine.execShlK8 s
  | .shlK9 => Sys2Proof.Machine.execShlK9 s
  | .shlK10 => Sys2Proof.Machine.execShlK10 s
  | .shlK11 => Sys2Proof.Machine.execShlK11 s
  | .shlK12 => Sys2Proof.Machine.execShlK12 s
  | .shlK13 => Sys2Proof.Machine.execShlK13 s
  | .shlK14 => Sys2Proof.Machine.execShlK14 s
  | .shlK15 => Sys2Proof.Machine.execShlK15 s
  | .shlK16 => Sys2Proof.Machine.execShlK16 s
  | .shlK24 => Sys2Proof.Machine.execShlK24 s
  | .shlKDec d => Sys2Proof.Machine.execShlKDec d s
  | .shrK0 => Sys2Proof.Machine.execShrK0 s
  | .shrK1 => Sys2Proof.Machine.execShrK1 s
  | .shrK2 => Sys2Proof.Machine.execShrK2 s
  | .shrK3 => Sys2Proof.Machine.execShrK3 s
  | .shrK4 => Sys2Proof.Machine.execShrK4 s
  | .shrK5 => Sys2Proof.Machine.execShrK5 s
  | .shrK6 => Sys2Proof.Machine.execShrK6 s
  | .shrK7 => Sys2Proof.Machine.execShrK7 s
  | .shrK8 => Sys2Proof.Machine.execShrK8 s
  | .shrK9 => Sys2Proof.Machine.execShrK9 s
  | .shrK10 => Sys2Proof.Machine.execShrK10 s
  | .shrK11 => Sys2Proof.Machine.execShrK11 s
  | .shrK12 => Sys2Proof.Machine.execShrK12 s
  | .shrK13 => Sys2Proof.Machine.execShrK13 s
  | .shrK14 => Sys2Proof.Machine.execShrK14 s
  | .shrK15 => Sys2Proof.Machine.execShrK15 s
  | .shrK16 => Sys2Proof.Machine.execShrK16 s
  | .shrK24 => Sys2Proof.Machine.execShrK24 s
  | .shrKDec d => Sys2Proof.Machine.execShrKDec d s
  | .shlR => Sys2Proof.Machine.execShlR s
  | .shrR => Sys2Proof.Machine.execShrR s

end Sys2Proof.Machine
end

