-- ==== Sys2Proof/Machine/Controller.lean ====
section
/-! DEFINITION. Which event happens in a state, and where the command of that event is found
(44_decomposition_dispatch.md R200; 60_exceptions.md R239; 70_reset_and_hazards.md R261, R262). -/

namespace Sys2Proof.Machine

/-- The command in flight in `RUN`, read from the latched registers `KF`, `DIRL` and `R` (10_state.md R36, R40, R41):
`W` holds the value argument and `R` the distance argument of the current call of the recursion, so a permute STEP of a
K form leaves the K form of distance `R - 16` in flight (40_left_shift.md R119; notes/assumptions/7.md). -/
def inFlight (s : State) : Instr :=
  if s.kf = 1 then kInstr (dirOfBit s.dirl) s.r else rInstr (dirOfBit s.dirl)

/-- The event in `IDLE`: ACCEPT when the host offers a request, and nothing otherwise (R203; 60_exceptions.md R248). The
ports are sampled here and only here. A word that names no command gets its error response (R232). -/
def idleEvent (s : State) : Host.Outcome State Fault Refusal :=
  if s.ports.reqValid then
    match decode s.ports.reqCmd with
    | .command i => exec i s
    | .illegal _ => .next (accept s.ports.reqCmd s.ports.reqValue s.ports.reqDist s)
  else .next s

/-- The one event enabled in a state: RESET outranks every other (R239, R261); before the first RESET no other event is
taken (R262); then the phase decides (R203, R204, R206). `CTL` = 3 stops (10_state.md R37). -/
def blockEvent (s : State) : Host.Outcome State Fault Refusal :=
  if s.everReset = true ∧ s.ctl = 3 then .fault .illegalPhase
  else if s.ports.rst then .next s.resetEvent
  else if s.everReset = false then .fault .beforeFirstReset
  else if s.ctl = ctlIdle then idleEvent s
  else if s.ctl = ctlRun then exec (inFlight s) s
  else .next (takeOrHold s)

/-- After the event, the host drives its next port levels (10_state.md R47; notes/assumptions/4.md). -/
def thenHost : Host.Outcome State Fault Refusal → Host.Outcome State Fault Refusal
  | .next s => .next s.hostDrives
  | .fault f => .fault f
  | .refused r => .refused r

/-- One step of an instance: its one event, then the host's move. A refused elaboration has no behaviour
(70_reset_and_hazards.md R266, 60_exceptions.md R237). -/
def instanceStep (s : State) : Host.Outcome State Fault Refusal :=
  if elaborates s.params then thenHost (blockEvent s) else .refused .elaboration

/-- The state whose next event is the ACCEPT of the word `cmd`: out of reset, in `IDLE`, with `cmd` offered on the request
port and no reset requested (notes/assumptions/9.md). -/
def State.offering (cmd : Cmd) (s : State) : State :=
  { s with everReset := true, ctl := ctlIdle, ports := { s.ports with rst := false, reqValid := true, reqCmd := cmd } }

end Sys2Proof.Machine
end

