-- ==== Sys2Proof/Machine/Step.lean ====
section
/-! DEFINITION. One step of the machine, and the host's way to present a command word. -/

namespace Sys2Proof.Machine

/-- One step: the one event enabled in the state, then the host's move. -/
def step (s : State) : Host.Outcome State Fault Refusal := instanceStep s

/-- The state with the word `w` of `nbits` bits presented where the next step takes its command: on the request port of a
block that is out of reset and in `IDLE`. A command word is always 16 bits (30_encoding.md R71). -/
def State.withFetchWord (s : State) (nbits w : Nat) : State := s.offering (BitVec.ofNat 16 (w % 2 ^ nbits))

end Sys2Proof.Machine
end

