-- ==== Sys2Proof/Machine/Assembler.lean ====
section
/-! DEFINITION. The assembler: the pseudo-instructions, the checks it makes and the text it reads (30_encoding.md R81,
R82; 60_exceptions.md R237). It acts before the block runs; no step calls it. -/

namespace Sys2Proof.Machine

/-- One request: the command word and the operands presented with it (10_state.md R46). -/
structure Request where
  /-- What `req_cmd` carries. -/
  cmd : Cmd
  /-- What `req_value` carries. -/
  value : Word32
  /-- What `req_dist` carries; ignored for a K form, where the assembler writes 0. -/
  dist : Dist
deriving DecidableEq, Repr

/-- One line, with its literals as numbers: the four forms of R81 and the pseudo-instructions of R82. -/
inductive AsmLine where
  /-- `SHL.K #d, value`. -/
  | shlK (d value : Nat)
  /-- `SHR.K #d, value`. -/
  | shrK (d value : Nat)
  /-- `SHL.R value, dist`. -/
  | shlR (value dist : Nat)
  /-- `SHR.R value, dist`. -/
  | shrR (value dist : Nat)
  /-- `lshift(v, d)`, `d` a constant. -/
  | lshiftConst (value d : Nat)
  /-- `rshift(v, d)`, `d` a constant. -/
  | rshiftConst (value d : Nat)
  /-- `lshift(v, r)`, `r` a run-time value; here with the value it has. -/
  | lshiftRun (value r : Nat)
  /-- `rshift(v, r)`, `r` a run-time value; here with the value it has. -/
  | rshiftRun (value r : Nat)
  /-- `MOV v`. -/
  | mov (value : Nat)
  /-- `PERM16.L v`. -/
  | perm16L (value : Nat)
  /-- `PERM16.R v`. -/
  | perm16R (value : Nat)
  /-- `CLR v`. -/
  | clr (value : Nat)
deriving DecidableEq, Repr

/-- Why the assembler refuses a line (R81). R81 asks only that the diagnostic name the line: that it also gives one of these
causes is a DESIGN CHOICE (notes/assumptions/17.md). -/
inductive AsmRefusal where
  /-- A `d` or `dist` outside 0..255. -/
  | distanceRange
  /-- A value literal of more than 32 bits. -/
  | valueRange
  /-- A K form whose `RESOLVE` is NONE. -/
  | noTransform
  /-- An R form when `RTA` = 0. -/
  | noRunTime
  /-- Any other mnemonic, or a line of no form of R81 or R82. -/
  | unknownLine
deriving DecidableEq, Repr

/-- A diagnostic names the line (R81). That lines count from 1, and that it gives a cause, is a DESIGN CHOICE
(notes/assumptions/17.md). -/
structure Diagnostic where
  /-- The line's number. -/
  line : Nat
  /-- What is wrong with it. -/
  why : AsmRefusal
deriving DecidableEq, Repr

/-- What the assembler answers: its output, or a refusal and no output at all (R237). -/
inductive Assembled (ε α : Type) where
  /-- The output. -/
  | output (a : α)
  /-- The refusal. -/
  | refusal (e : ε)
deriving DecidableEq, Repr

/-- A K form: refused for a distance outside 0..255 and for a distance with no transform (R81). Which cause is given when
several hold, the distance's range before the value's width before RESOLVE, is a DESIGN CHOICE (notes/assumptions/17.md). -/
def assembleK (p : Params) (dir : Dir) (d value : Nat) : Assembled AsmRefusal Request :=
  if 255 < d then .refusal .distanceRange
  else if 2 ^ 32 ≤ value then .refusal .valueRange
  else if resolve p dir d = false then .refusal .noTransform
  else .output { cmd := cmdWord 0 0 (bitOfDir dir) (BitVec.ofNat 8 d), value := BitVec.ofNat 32 value, dist := 0 }

/-- An R form: refused for a distance outside 0..255 and when `RTA` = 0 (R81). Which cause is given when several hold, the
distance's range before the value's width before `RTA`, is a DESIGN CHOICE (notes/assumptions/17.md). -/
def assembleR (p : Params) (dir : Dir) (value dist : Nat) : Assembled AsmRefusal Request :=
  if 255 < dist then .refusal .distanceRange
  else if 2 ^ 32 ≤ value then .refusal .valueRange
  else if p.rta = 0 then .refusal .noRunTime
  else .output { cmd := cmdWord 0 1 (bitOfDir dir) 0, value := BitVec.ofNat 32 value, dist := BitVec.ofNat 8 dist }

/-- One line: the pseudo-instructions stand for their expansions (R81, R82). -/
def assembleLine (p : Params) : AsmLine → Assembled AsmRefusal Request
  | .shlK d v => assembleK p .left d v
  | .shrK d v => assembleK p .right d v
  | .shlR v d => assembleR p .left v d
  | .shrR v d => assembleR p .right v d
  | .lshiftConst v d => assembleK p .left d v
  | .rshiftConst v d => assembleK p .right d v
  | .lshiftRun v r => assembleR p .left v r
  | .rshiftRun v r => assembleR p .right v r
  | .mov v => assembleK p .left 0 v
  | .perm16L v => assembleK p .left 16 v
  | .perm16R v => assembleK p .right 16 v
  | .clr v => assembleK p .left 32 v

/-! ## The text of a line (R81). The spacing rules are a DESIGN CHOICE (notes/assumptions/13.md). -/

/-- The pieces a line of text is cut into. -/
inductive Token where
  /-- A run of characters that are not one of the marks or a blank. -/
  | word (cs : List Char)
  /-- The mark before an immediate distance. -/
  | hash
  /-- The comma between operands. -/
  | comma
  /-- An opening parenthesis. -/
  | opening
  /-- A closing parenthesis. -/
  | closing
deriving DecidableEq, Repr

/-- The word being read, given with its last character first, as a token of its own when it is not empty. -/
def flushWord (cur : List Char) (rest : List Token) : List Token :=
  match cur with
  | [] => rest
  | _ :: _ => .word cur.reverse :: rest

/-- The tokens of a line; a `;` starts a comment (R81). -/
def tokens : List Char → List Char → List Token
  | cur, [] => flushWord cur []
  | cur, c :: cs =>
    if c = ';' then flushWord cur []
    else if c = ' ' ∨ c = '\t' ∨ c = '\r' then flushWord cur (tokens [] cs)
    else if c = '#' then flushWord cur (.hash :: tokens [] cs)
    else if c = ',' then flushWord cur (.comma :: tokens [] cs)
    else if c = '(' then flushWord cur (.opening :: tokens [] cs)
    else if c = ')' then flushWord cur (.closing :: tokens [] cs)
    else tokens (c :: cur) cs

/-- The value of a decimal or hexadecimal digit. -/
def digitValue (c : Char) : Option Nat :=
  let n := c.toNat
  if 48 ≤ n ∧ n ≤ 57 then some (n - 48)
  else if 65 ≤ n ∧ n ≤ 70 then some (n - 55)
  else if 97 ≤ n ∧ n ≤ 102 then some (n - 87)
  else none

/-- The number written by digits of a base, most significant first, after the digits worth `acc`. -/
def digitsValue (base : Nat) : Nat → List Char → Option Nat
  | acc, [] => some acc
  | acc, c :: cs =>
    match digitValue c with
    | some v => if v < base then digitsValue base (acc * base + v) cs else none
    | none => none

/-- A literal: decimal, or hexadecimal after `0x` (R81). -/
def literal : List Char → Option Nat
  | '0' :: 'x' :: c :: cs => digitsValue 16 0 (c :: cs)
  | c :: cs => digitsValue 10 0 (c :: cs)
  | [] => none

/-- A line form applied to two literals. -/
def withLiterals (form : Nat → Nat → AsmLine) (a b : List Char) : Option AsmLine :=
  match literal a, literal b with
  | some x, some y => some (form x y)
  | _, _ => none

/-- A form `mnemonic #d, value` (R81). -/
def immediateForm (m d v : List Char) : Option AsmLine :=
  if m = ['S', 'H', 'L', '.', 'K'] then withLiterals .shlK d v
  else if m = ['S', 'H', 'R', '.', 'K'] then withLiterals .shrK d v
  else none

/-- A form `mnemonic value, dist` (R81). -/
def runTimeForm (m v d : List Char) : Option AsmLine :=
  if m = ['S', 'H', 'L', '.', 'R'] then withLiterals .shlR v d
  else if m = ['S', 'H', 'R', '.', 'R'] then withLiterals .shrR v d
  else none

/-- A form `name(value, d)` with a constant distance (R82). -/
def callForm (m v d : List Char) : Option AsmLine :=
  if m = ['l', 's', 'h', 'i', 'f', 't'] then withLiterals .lshiftConst v d
  else if m = ['r', 's', 'h', 'i', 'f', 't'] then withLiterals .rshiftConst v d
  else none

/-- A form `mnemonic value` (R82). -/
def singleForm (m v : List Char) : Option AsmLine :=
  if m = ['M', 'O', 'V'] then (literal v).map .mov
  else if m = ['P', 'E', 'R', 'M', '1', '6', '.', 'L'] then (literal v).map .perm16L
  else if m = ['P', 'E', 'R', 'M', '1', '6', '.', 'R'] then (literal v).map .perm16R
  else if m = ['C', 'L', 'R'] then (literal v).map .clr
  else none

/-- The line a list of tokens stands for; none for a line of no form (R81, R82). -/
def parseTokens : List Token → Option AsmLine
  | [.word m, .hash, .word d, .comma, .word v] => immediateForm m d v
  | [.word m, .word v, .comma, .word d] => runTimeForm m v d
  | [.word m, .opening, .word v, .comma, .word d, .closing] => callForm m v d
  | [.word m, .word v] => singleForm m v
  | _ => none

/-- The requests of a program, whose first line has number `n`; a line with no tokens gives no request. One refused line
and there is no command stream (R81, R237). That one diagnostic is given, for the first refused line, is a DESIGN CHOICE
(notes/assumptions/17.md). -/
def assembleFrom (p : Params) : Nat → List (List Char) → Assembled Diagnostic (List Request)
  | _, [] => .output []
  | n, l :: ls =>
    match tokens [] l with
    | [] => assembleFrom p (n + 1) ls
    | t :: ts =>
      match parseTokens (t :: ts) with
      | none => .refusal { line := n, why := .unknownLine }
      | some line =>
        match assembleLine p line with
        | .refusal why => .refusal { line := n, why := why }
        | .output q =>
          match assembleFrom p (n + 1) ls with
          | .refusal e => .refusal e
          | .output qs => .output (q :: qs)

/-- The assembler: the command stream of a program's lines, or the diagnostic of its first refused line (R81; which
line, when several are refused, is a DESIGN CHOICE, notes/assumptions/17.md). -/
def assemble (p : Params) (program : List (List Char)) : Assembled Diagnostic (List Request) := assembleFrom p 1 program

end Sys2Proof.Machine
end

