-- ==== Sys2Proof/Safety.lean ====
section
/-! DEFINITION. What counts as a good state and a safe run, in the terms the statements use (10_state.md R44;
44_decomposition_dispatch.md R209). -/

namespace Sys2Proof.Machine

/-- A request in flight has a transform: a K form resolves at the remaining distance (30_encoding.md R76), and an R form
is in an instance with the run-time dispatcher (00_scope.md R8). ACCEPT lets no other request through (R203, R231). -/
def inFlightHasTransform (s : State) : Prop :=
  (s.kf = 1 → resolve s.params (dirOfBit s.dirl) s.r.toNat = true) ∧ (s.kf = 0 → s.params.rta ≠ 0)

/-- The controller invariant: a legal phase (10_state.md R44 (a)), no error while in `RUN` (b), value 0 in an error
response (c), a transform for the request in flight, and no distance left in `RESP` (44_decomposition_dispatch.md R203,
R204). -/
structure ControllerInv (s : State) : Prop where
  /-- R44 (a). -/
  legalPhase : s.ctl ≠ 3
  /-- R44 (b). -/
  runHasNoError : s.ctl = ctlRun → s.errl = errOk
  /-- R44 (c). -/
  errorHasValueZero : s.ctl = ctlResp → s.errl ≠ errOk → s.w = 0
  /-- R76, R231. -/
  runHasTransform : s.ctl = ctlRun → inFlightHasTransform s
  /-- R203, R204. -/
  respHasNoDistance : s.ctl = ctlResp → s.r = 0

/-- A good state: the controller invariant in an instance that the elaboration check accepts and that has been reset
(70_reset_and_hazards.md R264). -/
structure Good (s : State) : Prop where
  /-- R266. -/
  elaborated : elaborates s.params = true
  /-- R262. -/
  reset : s.everReset = true
  /-- R44. -/
  controller : ControllerInv s

/-- The decomposition invariant, for the value `v` and the distance `d` that ACCEPT took: `W` is `v` shifted by the part of
the distance already applied (44_decomposition_dispatch.md R209; 10_state.md R44 (d)). -/
def DecompositionInv (v : Word32) (d : Dist) (s : State) : Prop :=
  s.errl = errOk ∧ s.r.toNat ≤ d.toNat ∧ s.w = shift32 (dirOfBit s.dirl) v (d.toNat - s.r.toNat)

/-- Neither the levels on the ports now nor any the host will drive ask for a reset. -/
def NoReset (s : State) : Prop := s.ports.rst = false ∧ ∀ p ∈ s.hostMoves, p.rst = false

/-- `k` steps of the machine, as `Host.Core.run` takes them. -/
def runSteps (k : Nat) (s : State) : Host.Outcome State Fault Refusal :=
  match k with
  | 0 => .next s
  | k + 1 =>
    match step s with
    | .next t => runSteps k t
    | .fault f => .fault f
    | .refused r => .refused r

/-- The response a request deserves: value 0 and its code for an error word (60_exceptions.md R232), and the exact shift
with code 0 for a legal one (44_decomposition_dispatch.md R210). It reads the request and the parameters only. -/
def responseOf (p : Params) (cmd : Cmd) (value : Word32) (reqDist : Dist) : Response :=
  if decodeErr p cmd ≠ errOk then { value := 0, err := decodeErr p cmd }
  else { value := shift32 (dirOfBit (dirField cmd)) value (requestDist cmd reqDist).toNat, err := errOk }

/-- How many STEPs a K form of distance `d` takes, along at most `fuel` permutes: with `OPT` = 1 one for each distance of
its chain where `SEL` gives DECOMP, and the last one; with `OPT` = 0 one (44_decomposition_dispatch.md R208). -/
def kStepsWithin (p : Params) (dir : Dir) : Nat → Nat → Nat
  | 0, _ => 1
  | fuel + 1, d => if p.opt = 1 ∧ sel p dir d = .decomp then kStepsWithin p dir fuel (d - 16) + 1 else 1

/-- How many STEPs a request of form `kf` and distance `d` takes (R208). -/
def stepsOf (p : Params) (kf : BitVec 1) (dir : Dir) (d : Nat) : Nat :=
  if kf = 1 then kStepsWithin p dir (d / 16) d
  else if p.opt = 1 then d / 16 + 1 else 1

/-- How many STEPs a request takes: none for an error word, whose response is ready at ACCEPT (60_exceptions.md R232). -/
def stepsForRequest (p : Params) (cmd : Cmd) (reqDist : Dist) : Nat :=
  if decodeErr p cmd ≠ errOk then 0
  else stepsOf p (formBit cmd) (dirOfBit (dirField cmd)) (requestDist cmd reqDist).toNat

/-- A state in which the host offers a request to a block that can accept it, with no reset now or coming: the next event
is ACCEPT (44_decomposition_dispatch.md R203). -/
structure Offers (s : State) : Prop where
  /-- The block is in a good state. -/
  good : Good s
  /-- No reset now or coming. -/
  noReset : NoReset s
  /-- `req_ready` = 1. -/
  idle : s.ctl = ctlIdle
  /-- `req_valid` = 1. -/
  valid : s.ports.reqValid = true

end Sys2Proof.Machine
end

