-- ==== Sys2Proof/Certificates/Slice0/Obligations.lean ====
section
/-! DEFINITION. The statements for the provers, from the numbered rules of spec/. -/

namespace Sys2Proof.Machine

/-- The K forms of the fixed distances, each by name with its direction and distance (30_encoding.md R73). -/
def fixedKForms : List (Dir × Dist × Instr) :=
  [(.left, 0, .shlK0), (.left, 1, .shlK1), (.left, 2, .shlK2), (.left, 3, .shlK3), (.left, 4, .shlK4), (.left, 5, .shlK5),
    (.left, 6, .shlK6), (.left, 7, .shlK7), (.left, 8, .shlK8), (.left, 9, .shlK9), (.left, 10, .shlK10), (.left, 11, .shlK11),
    (.left, 12, .shlK12), (.left, 13, .shlK13), (.left, 14, .shlK14), (.left, 15, .shlK15), (.left, 16, .shlK16), (.left, 24, .shlK24),
    (.right, 0, .shrK0), (.right, 1, .shrK1), (.right, 2, .shrK2), (.right, 3, .shrK3), (.right, 4, .shrK4), (.right, 5, .shrK5),
    (.right, 6, .shrK6), (.right, 7, .shrK7), (.right, 8, .shrK8), (.right, 9, .shrK9), (.right, 10, .shrK10), (.right, 11, .shrK11),
    (.right, 12, .shrK12), (.right, 13, .shrK13), (.right, 14, .shrK14), (.right, 15, .shrK15), (.right, 16, .shrK16), (.right, 24, .shrK24)]

/-- `i` is the K-form command of direction `dir` and distance `d`: one of the fixed ones, or a decomposition command at a
distance it admits (30_encoding.md R73). -/
def IsKForm (dir : Dir) (d : Dist) (i : Instr) : Prop :=
  (dir, d, i) ∈ fixedKForms ∨ (isDecDist d = true ∧ ((dir = .left ∧ i = .shlKDec d) ∨ (dir = .right ∧ i = .shrKDec d)))

/-- The distances of the sample totals of 44_decomposition_dispatch.md R208. -/
def sampleDistances : List Nat := [0, 16, 24, 32, 40, 100, 240, 255]

/-- The K-form lines of a direction with a distance of their own: R81's form and R82's call. -/
def kLines (dir : Dir) (v d : Nat) : List AsmLine :=
  match dir with
  | .left => [.shlK d v, .lshiftConst v d]
  | .right => [.shrK d v, .rshiftConst v d]

/-- The R-form lines: R81's two forms and R82's two calls with a run-time distance. -/
def rLines (v d : Nat) : List AsmLine := [.shlR v d, .shrR v d, .lshiftRun v d, .rshiftRun v d]

/-- The mnemonics of 30_encoding.md R81 and the names of R82. -/
def assemblyMnemonics : List (List Char) :=
  [['S', 'H', 'L', '.', 'K'], ['S', 'H', 'R', '.', 'K'], ['S', 'H', 'L', '.', 'R'], ['S', 'H', 'R', '.', 'R'],
    ['l', 's', 'h', 'i', 'f', 't'], ['r', 's', 'h', 'i', 'f', 't'], ['M', 'O', 'V'],
    ['P', 'E', 'R', 'M', '1', '6', '.', 'L'], ['P', 'E', 'R', 'M', '1', '6', '.', 'R'], ['C', 'L', 'R']]

/-- A line of text that is not blank and is refused for the cause `why`: it is of no form, or its form is refused (R81). -/
def LineRefused (p : Params) (line : List Char) (why : AsmRefusal) : Prop :=
  ∃ t ts, tokens [] line = t :: ts ∧
    ((parseTokens (t :: ts) = none ∧ why = .unknownLine) ∨
      ∃ l, parseTokens (t :: ts) = some l ∧ assembleLine p l = .refusal why)

end Sys2Proof.Machine

open Sys2Proof Sys2Proof.Machine

/-- Words written out from the encoding decode to their commands (R65, R72, R73, R74). -/
def Obligations.SampleWordsDecode : Prop :=
  decode 0x0000 = .command .shlK0 ∧ decode 0x0005 = .command .shlK5 ∧ decode 0x000B = .command .shlK11 ∧
  decode 0x0010 = .command .shlK16 ∧ decode 0x0018 = .command .shlK24 ∧ decode 0x0011 = .command (.shlKDec 17) ∧
  decode 0x00FF = .command (.shlKDec 255) ∧ decode 0x0104 = .command .shrK4 ∧ decode 0x010F = .command .shrK15 ∧
  decode 0x0118 = .command .shrK24 ∧ decode 0x0119 = .command (.shrKDec 25) ∧ decode 0x0120 = .command (.shrKDec 32) ∧
  decode 0x0200 = .command .shlR ∧ decode 0x0300 = .command .shrR ∧
  decode 0x0400 = .illegal .reservedBits ∧ decode 0x0201 = .illegal .runTimeDistance

/-- Decoding the encoding of any well-formed command gives it back (R65, R72, R73, R80). -/
def Obligations.DecodeInvertsEncode : Prop :=
  ∀ i : Instr, i.wf = true → decode (encode i) = .command i

/-- A word that decodes to a command is that command's encoding, and the command is well formed (R65, R72, R79). -/
def Obligations.EncodeInvertsDecode : Prop :=
  ∀ (w : Cmd) (i : Instr), decode w = .command i → encode i = w ∧ i.wf = true

/-- Exactly one opcode row matches a command word, and none matches any other word (R79, R80). -/
def Obligations.OpcodeRowsAreExactlyTheCommands : Prop :=
  opcodeTable.length = 56 ∧
    ∀ w : Cmd, (opcodeTable.filter fun row => row.hits w).length =
      match decode w with
      | .command _ => 1
      | .illegal _ => 0

/-- Code ILLEGAL is given to exactly the words that name no command (R231, R235, R74). -/
def Obligations.IllegalCodeIsExactlyRefusedWords : Prop :=
  ∀ (p : Params) (w : Cmd),
    (decodeErr p w = errIllegal ↔ ∃ why, decode w = .illegal why) ∧
      (decodeErr p w = errIllegal ↔ rsvField w ≠ 0 ∨ (srcField w = 1 ∧ distField w ≠ 0))

/-- With the default sets and OPT = RTA = 1 the legal words are 0x0000 to 0x01FF, 0x0200 and 0x0300 (R79, R78). -/
def Obligations.DefaultParametersHave514LegalWords : Prop :=
  ∀ w : Cmd, decodeErr Config.thisInstance w = errOk ↔ w.toNat < 512 ∨ w = 0x0200 ∨ w = 0x0300

/-- shl1_chain doubles an n-byte number modulo 2^(8n) (R17). -/
def Obligations.LeftChainDoublesModulo : Prop :=
  ∀ xs : List Byte, (shl1Chain xs).length = xs.length ∧
    bytesValue (shl1Chain xs) = bytesValue xs * 2 % 2 ^ (8 * xs.length)

/-- shr1_chain halves an n-byte number, filling with zero (R18). -/
def Obligations.RightChainHalves : Prop :=
  ∀ xs : List Byte, (shr1Chain xs).length = xs.length ∧ bytesValue (shr1Chain xs) = bytesValue xs / 2

/-- NIB4L joins swapped nibbles and is the left shift by 4 (R19). -/
def Obligations.NibbleReconstructionShiftsLeftFour : Prop :=
  ∀ x3 x2 x1 x0 : Byte,
    nib4L x3 x2 x1 x0 =
        [(swap8 x3 &&& 0xF0) ||| (swap8 x2 &&& 0x0F), (swap8 x2 &&& 0xF0) ||| (swap8 x1 &&& 0x0F),
          (swap8 x1 &&& 0xF0) ||| (swap8 x0 &&& 0x0F), swap8 x0 &&& 0xF0] ∧
      wordOf (nib4L x3 x2 x1 x0) = shl32 (wordOf [x3, x2, x1, x0]) 4

/-- NIB4R joins swapped nibbles and is the logical right shift by 4 (R20). -/
def Obligations.NibbleReconstructionShiftsRightFour : Prop :=
  ∀ x3 x2 x1 x0 : Byte,
    nib4R x3 x2 x1 x0 =
        [swap8 x3 &&& 0x0F, (swap8 x2 &&& 0x0F) ||| (swap8 x3 &&& 0xF0),
          (swap8 x1 &&& 0x0F) ||| (swap8 x2 &&& 0xF0), (swap8 x0 &&& 0x0F) ||| (swap8 x1 &&& 0xF0)] ∧
      wordOf (nib4R x3 x2 x1 x0) = shr32 (wordOf [x3, x2, x1, x0]) 4

/-- PERM16L moves bytes X1 and X0 to the top and equals the left shift by 16 (R181). -/
def Obligations.LeftPermuteIsShiftBySixteen : Prop :=
  (∀ x : Word32, lane (perm16L x) 3 = lane x 1 ∧ lane (perm16L x) 2 = lane x 0 ∧ lane (perm16L x) 1 = 0 ∧
      lane (perm16L x) 0 = 0 ∧ perm16L x = shl32 x 16) ∧
    perm16L 0x00008235 = 0x82350000

/-- PERM16R moves bytes X3 and X2 to the bottom and equals the logical right shift by 16 (R182). -/
def Obligations.RightPermuteIsShiftBySixteen : Prop :=
  (∀ x : Word32, lane (perm16R x) 3 = 0 ∧ lane (perm16R x) 2 = 0 ∧ lane (perm16R x) 1 = lane x 3 ∧
      lane (perm16R x) 0 = lane x 2 ∧ perm16R x = shr32 x 16) ∧
    perm16R 0xDEADBEEF = 0x0000DEAD

/-- Two permutes in one direction give 0, and the two directions compose to masks (R183). -/
def Obligations.PermuteLaws : Prop :=
  ∀ x : Word32,
    (∀ dir : Dir, perm16 dir (perm16 dir x) = 0 ∧ perm16 dir 0 = 0) ∧
      perm16 .right (perm16 .left x) = x &&& 0x0000FFFF ∧ perm16 .left (perm16 .right x) = x &&& 0xFFFF0000

/-- Every datapath the mux can select computes the exact shift (R196, R205, R100, R140). -/
def Obligations.SelectionComputesTheContract : Prop :=
  ∀ (p : Params) (dir : Dir) (d : Nat) (x : Word32),
    sel p dir d ≠ .decomp → sel p dir d ≠ .none → apply p dir d x = .ok (shift32 dir x d)

/-- A shift by d is a shift by 16 followed by a shift by d - 16 (R207). -/
def Obligations.DecompositionLaw : Prop :=
  ∀ (dir : Dir) (v : Word32) (d : Nat), 16 ≤ d → shift32 dir v d = shift32 dir (shift32 dir v 16) (d - 16)

/-- Corner cases of the contract functions (R121, R161, R22). -/
def Obligations.ContractCornerCases : Prop :=
  (∀ (dir : Dir) (v : Word32) (d : Nat), shift32 dir v 0 = v ∧ (32 ≤ d → shift32 dir v d = 0) ∧ shift32 dir 0 d = 0) ∧
    ∀ v : Word32, shl32 v 31 = (if v.getLsbD 0 then 0x80000000 else 0) ∧ shr32 v 31 = (if v.getLsbD 31 then 1 else 0)

/-- The selector table under the default sets (R78). -/
def Obligations.DefaultSelectorTable : Prop :=
  (∀ (p : Params) (dir : Dir) (d : Nat), p.opt = 1 → p.fallbackL = [1, 2, 3, 8, 24] → p.fallbackR = [1, 2, 3, 8, 24] → d < 256 →
      (d = 0 → sel p dir d = .ident) ∧
      (d ∈ [1, 2, 3, 8, 24] → sel p dir d = .fallback) ∧
      (∀ k : SpecDist, d = k.toNat → sel p dir d = .spec k) ∧
      (d = 16 → sel p dir d = .perm16) ∧
      (16 < d → d ≠ 24 → sel p dir d = .decomp) ∧
      sel p dir d ≠ .none ∧ resolve p dir d = true) ∧
    ∀ (p : Params) (dir : Dir) (d : Nat), p.opt = 0 → sel p dir d = .fallback

/-- An elaboration is refused exactly for the three causes (R266). That a fallback set is a list and the switches are
numbers is the model's (notes/assumptions/11.md). -/
def Obligations.ElaborationCheck : Prop :=
  (∀ p : Params, elaborates p = false ↔
      ((p.opt ≠ 0 ∧ p.opt ≠ 1) ∨ (p.rta ≠ 0 ∧ p.rta ≠ 1)) ∨
      (∃ d, (d ∈ p.fallbackL ∨ d ∈ p.fallbackR) ∧ ¬((1 ≤ d ∧ d ≤ 15) ∨ (17 ≤ d ∧ d ≤ 255))) ∨
      (p.rta = 1 ∧ p.opt = 1 ∧ ∃ (dir : Dir) (r : Nat), 1 ≤ r ∧ r ≤ 15 ∧ sel p dir r = .none)) ∧
    ∀ opt ≤ 1, ∀ rta ≤ 1, elaborates { opt := opt, rta := rta, fallbackL := [1, 2, 3, 8, 24], fallbackR := [1, 2, 3, 8, 24] } = true

/-- In IDLE a K form with a transform is latched (R203, R70, R236). How exec cuts a request into events is the model's
(notes/assumptions/7.md). -/
def Obligations.KFormAcceptLatches : Prop :=
  ∀ (dir : Dir) (d : Dist) (i : Instr) (s : State), IsKForm dir d i → s.ctl = ctlIdle → resolve s.params dir d.toNat = true →
    exec i s = .next { s with dirl := bitOfDir dir, kf := 1, w := s.ports.reqValue, r := d, errl := errOk, ctl := ctlRun }

/-- In IDLE a K form without a transform gets the error response NO_TRANSFORM (R232, R234, R203). How exec cuts a request
into events is the model's (notes/assumptions/7.md). -/
def Obligations.KFormWithoutTransformIsAnswered : Prop :=
  ∀ (dir : Dir) (d : Dist) (i : Instr) (s : State), IsKForm dir d i → s.ctl = ctlIdle → resolve s.params dir d.toNat = false →
    exec i s = .next { s with dirl := bitOfDir dir, kf := 1, w := 0, r := 0, errl := errNoTransform, ctl := ctlResp }

/-- In IDLE an R form is latched when RTA is on and answered NO_RUNTIME when it is off (R203, R201, R202, R233, R232). How
exec cuts a request into events is the model's (notes/assumptions/7.md). -/
def Obligations.RunTimeAccept : Prop :=
  ∀ s : State, s.ctl = ctlIdle →
    (s.params.rta ≠ 0 →
      exec .shlR s = .next { s with dirl := 0, kf := 0, w := s.ports.reqValue, r := s.ports.reqDist, errl := errOk, ctl := ctlRun } ∧
      exec .shrR s = .next { s with dirl := 1, kf := 0, w := s.ports.reqValue, r := s.ports.reqDist, errl := errOk, ctl := ctlRun }) ∧
    (s.params.rta = 0 →
      exec .shlR s = .next { s with dirl := 0, kf := 0, w := 0, r := 0, errl := errNoRuntime, ctl := ctlResp } ∧
      exec .shrR s = .next { s with dirl := 1, kf := 0, w := 0, r := 0, errl := errNoRuntime, ctl := ctlResp })

/-- In RUN, SHL.K_0 and SHR.K_0 respond with the value unchanged (R101, R141, R204). How exec cuts a request into events
is the model's (notes/assumptions/7.md). -/
def Obligations.IdentityKeepsTheValue : Prop :=
  ∀ s : State, s.ctl = ctlRun →
    exec .shlK0 s = .next { s with r := 0, ctl := ctlResp } ∧ exec .shrK0 s = .next { s with r := 0, ctl := ctlResp }

/-- In RUN, SHL.K_4, SHL.K_5, SHL.K_12, SHL.K_13 (NIB) respond with the exact left shift (R105, R106, R113, R114, R204,
R100). How exec cuts a request into events is the model's (notes/assumptions/7.md). -/
def Obligations.LeftNibbleFamily : Prop :=
  ∀ s : State, s.ctl = ctlRun →
      exec .shlK4 s = .next { s with w := shl32 s.w 4, r := 0, ctl := ctlResp } ∧
      exec .shlK5 s = .next { s with w := shl32 s.w 5, r := 0, ctl := ctlResp } ∧
      exec .shlK12 s = .next { s with w := shl32 s.w 12, r := 0, ctl := ctlResp } ∧
      exec .shlK13 s = .next { s with w := shl32 s.w 13, r := 0, ctl := ctlResp }

/-- In RUN, SHR.K_4, SHR.K_5, SHR.K_12, SHR.K_13 (NIB) respond with the exact right shift (R145, R146, R153, R154, R204,
R140). How exec cuts a request into events is the model's (notes/assumptions/7.md). -/
def Obligations.RightNibbleFamily : Prop :=
  ∀ s : State, s.ctl = ctlRun →
      exec .shrK4 s = .next { s with w := shr32 s.w 4, r := 0, ctl := ctlResp } ∧
      exec .shrK5 s = .next { s with w := shr32 s.w 5, r := 0, ctl := ctlResp } ∧
      exec .shrK12 s = .next { s with w := shr32 s.w 12, r := 0, ctl := ctlResp } ∧
      exec .shrK13 s = .next { s with w := shr32 s.w 13, r := 0, ctl := ctlResp }

/-- In RUN, SHL.K_6, SHL.K_7, SHL.K_14, SHL.K_15 (ROT) respond with the exact left shift (R107, R108, R115, R116, R204,
R100). How exec cuts a request into events is the model's (notes/assumptions/7.md). -/
def Obligations.LeftRotateFamily : Prop :=
  ∀ s : State, s.ctl = ctlRun →
      exec .shlK6 s = .next { s with w := shl32 s.w 6, r := 0, ctl := ctlResp } ∧
      exec .shlK7 s = .next { s with w := shl32 s.w 7, r := 0, ctl := ctlResp } ∧
      exec .shlK14 s = .next { s with w := shl32 s.w 14, r := 0, ctl := ctlResp } ∧
      exec .shlK15 s = .next { s with w := shl32 s.w 15, r := 0, ctl := ctlResp }

/-- In RUN, SHR.K_6, SHR.K_7, SHR.K_14, SHR.K_15 (ROT) respond with the exact right shift (R147, R148, R155, R156, R204,
R140). How exec cuts a request into events is the model's (notes/assumptions/7.md). -/
def Obligations.RightRotateFamily : Prop :=
  ∀ s : State, s.ctl = ctlRun →
      exec .shrK6 s = .next { s with w := shr32 s.w 6, r := 0, ctl := ctlResp } ∧
      exec .shrK7 s = .next { s with w := shr32 s.w 7, r := 0, ctl := ctlResp } ∧
      exec .shrK14 s = .next { s with w := shr32 s.w 14, r := 0, ctl := ctlResp } ∧
      exec .shrK15 s = .next { s with w := shr32 s.w 15, r := 0, ctl := ctlResp }

/-- In RUN, SHL.K_9, SHL.K_10, SHL.K_11 (BYTE and carry steps) respond with the exact left shift (R110, R111, R112, R204,
R100). How exec cuts a request into events is the model's (notes/assumptions/7.md). -/
def Obligations.LeftByteFamily : Prop :=
  ∀ s : State, s.ctl = ctlRun →
      exec .shlK9 s = .next { s with w := shl32 s.w 9, r := 0, ctl := ctlResp } ∧
      exec .shlK10 s = .next { s with w := shl32 s.w 10, r := 0, ctl := ctlResp } ∧
      exec .shlK11 s = .next { s with w := shl32 s.w 11, r := 0, ctl := ctlResp }

/-- In RUN, SHR.K_9, SHR.K_10, SHR.K_11 (BYTE and carry steps) respond with the exact right shift (R150, R151, R152, R204,
R140). How exec cuts a request into events is the model's (notes/assumptions/7.md). -/
def Obligations.RightByteFamily : Prop :=
  ∀ s : State, s.ctl = ctlRun →
      exec .shrK9 s = .next { s with w := shr32 s.w 9, r := 0, ctl := ctlResp } ∧
      exec .shrK10 s = .next { s with w := shr32 s.w 10, r := 0, ctl := ctlResp } ∧
      exec .shrK11 s = .next { s with w := shr32 s.w 11, r := 0, ctl := ctlResp }

/-- In RUN, SHL.K_16 and SHR.K_16 respond with the shift by 16 in one STEP (R117, R157, R204, R184). How exec cuts a
request into events is the model's (notes/assumptions/7.md). -/
def Obligations.PermuteCommandsMoveSixteen : Prop :=
  ∀ s : State, s.ctl = ctlRun →
      exec .shlK16 s = .next { s with w := shl32 s.w 16, r := 0, ctl := ctlResp } ∧
      exec .shrK16 s = .next { s with w := shr32 s.w 16, r := 0, ctl := ctlResp }

/-- In RUN, SHL.K_1, _2, _3, _8 and _24 respond with the exact left shift where the fallback serves them (R102, R103,
R104, R109, R118, R193, R204). How exec cuts a request into events is the model's (notes/assumptions/7.md). -/
def Obligations.LeftFallbackFamily : Prop :=
  ∀ s : State, s.ctl = ctlRun →
    ((s.params.opt = 0 ∨ 1 ∈ s.params.fallbackL) → exec .shlK1 s = .next { s with w := shl32 s.w 1, r := 0, ctl := ctlResp }) ∧
    ((s.params.opt = 0 ∨ 2 ∈ s.params.fallbackL) → exec .shlK2 s = .next { s with w := shl32 s.w 2, r := 0, ctl := ctlResp }) ∧
    ((s.params.opt = 0 ∨ 3 ∈ s.params.fallbackL) → exec .shlK3 s = .next { s with w := shl32 s.w 3, r := 0, ctl := ctlResp }) ∧
    ((s.params.opt = 0 ∨ 8 ∈ s.params.fallbackL) → exec .shlK8 s = .next { s with w := shl32 s.w 8, r := 0, ctl := ctlResp }) ∧
    ((s.params.opt = 0 ∨ 24 ∈ s.params.fallbackL) → exec .shlK24 s = .next { s with w := shl32 s.w 24, r := 0, ctl := ctlResp }) ∧
    (s.params.opt = 1 → 24 ∉ s.params.fallbackL → exec .shlK24 s = .next { s with w := shl32 s.w 16, r := 8 })

/-- In RUN, SHR.K_1, _2, _3, _8 and _24 respond with the exact right shift where the fallback serves them (R142, R143,
R144, R149, R158, R193, R204). How exec cuts a request into events is the model's (notes/assumptions/7.md). -/
def Obligations.RightFallbackFamily : Prop :=
  ∀ s : State, s.ctl = ctlRun →
    ((s.params.opt = 0 ∨ 1 ∈ s.params.fallbackR) → exec .shrK1 s = .next { s with w := shr32 s.w 1, r := 0, ctl := ctlResp }) ∧
    ((s.params.opt = 0 ∨ 2 ∈ s.params.fallbackR) → exec .shrK2 s = .next { s with w := shr32 s.w 2, r := 0, ctl := ctlResp }) ∧
    ((s.params.opt = 0 ∨ 3 ∈ s.params.fallbackR) → exec .shrK3 s = .next { s with w := shr32 s.w 3, r := 0, ctl := ctlResp }) ∧
    ((s.params.opt = 0 ∨ 8 ∈ s.params.fallbackR) → exec .shrK8 s = .next { s with w := shr32 s.w 8, r := 0, ctl := ctlResp }) ∧
    ((s.params.opt = 0 ∨ 24 ∈ s.params.fallbackR) → exec .shrK24 s = .next { s with w := shr32 s.w 24, r := 0, ctl := ctlResp }) ∧
    (s.params.opt = 1 → 24 ∉ s.params.fallbackR → exec .shrK24 s = .next { s with w := shr32 s.w 16, r := 8 })

/-- In RUN, SHL.K_DEC takes one permute STEP, or responds at once where the fallback serves it (R119, R204, R193). How
exec cuts a request into events is the model's (notes/assumptions/7.md). -/
def Obligations.LeftDecompositionStep : Prop :=
  ∀ (d : Dist) (s : State), isDecDist d = true → s.ctl = ctlRun →
    (s.params.opt = 1 → d.toNat ∉ s.params.fallbackL → exec (.shlKDec d) s = .next { s with w := shl32 s.w 16, r := d - 16 }) ∧
    ((s.params.opt = 0 ∨ d.toNat ∈ s.params.fallbackL) →
      exec (.shlKDec d) s = .next { s with w := shl32 s.w d.toNat, r := 0, ctl := ctlResp })

/-- In RUN, SHR.K_DEC takes one permute STEP, or responds at once where the fallback serves it (R159, R204, R193). How
exec cuts a request into events is the model's (notes/assumptions/7.md). -/
def Obligations.RightDecompositionStep : Prop :=
  ∀ (d : Dist) (s : State), isDecDist d = true → s.ctl = ctlRun →
    (s.params.opt = 1 → d.toNat ∉ s.params.fallbackR → exec (.shrKDec d) s = .next { s with w := shr32 s.w 16, r := d - 16 }) ∧
    ((s.params.opt = 0 ∨ d.toNat ∈ s.params.fallbackR) →
      exec (.shrKDec d) s = .next { s with w := shr32 s.w d.toNat, r := 0, ctl := ctlResp })

/-- In RUN, SHL.R and SHR.R permute while R is at least 16 and then respond (R201, R202, R204, R193). How exec cuts a
request into events is the model's (notes/assumptions/7.md). -/
def Obligations.RunTimeStep : Prop :=
  ∀ s : State, s.ctl = ctlRun →
    (s.params.opt = 1 → 16 ≤ s.r.toNat →
      exec .shlR s = .next { s with w := shl32 s.w 16, r := s.r - 16 } ∧
      exec .shrR s = .next { s with w := shr32 s.w 16, r := s.r - 16 }) ∧
    ((s.params.opt = 0 ∨ (s.params.opt = 1 ∧ s.r.toNat < 16 ∧ sel s.params .left s.r.toNat ≠ .none)) →
      exec .shlR s = .next { s with w := shl32 s.w s.r.toNat, r := 0, ctl := ctlResp }) ∧
    ((s.params.opt = 0 ∨ (s.params.opt = 1 ∧ s.r.toNat < 16 ∧ sel s.params .right s.r.toNat ≠ .none)) →
      exec .shrR s = .next { s with w := shr32 s.w s.r.toNat, r := 0, ctl := ctlResp })

/-- The unreachable NONE arm faults, and CTL = 3 faults (R205, R37). That exec of a K form in RUN is its STEP at the
command's own distance, and how exec cuts a request into events, is the model's (notes/assumptions/7.md). That each
unreachable arm has a fault of its own name is the model's (notes/assumptions/12.md). -/
def Obligations.SelectionWithoutTransformFaults : Prop :=
  (∀ (dir : Dir) (d : Dist) (i : Instr) (s : State), IsKForm dir d i → s.ctl = ctlRun → sel s.params dir d.toNat = .none →
      exec i s = .fault .muxNone) ∧
    (∀ (dir : Dir) (s : State), s.ctl = ctlRun → s.r.toNat < 16 → sel s.params dir s.r.toNat = .none →
      exec (rInstr dir) s = .fault .muxNone) ∧
    ∀ (i : Instr) (s : State), s.ctl = 3 → exec i s = .fault .illegalPhase

/-- In RESP every command holds its response until the host takes it (R206, R269, R54). The host's record of responses is
the model's own field (notes/assumptions/4.md). How exec cuts a request into events is the model's
(notes/assumptions/7.md). -/
def Obligations.ResponseIsHeldOrTaken : Prop :=
  ∀ (i : Instr) (s : State), s.ctl = ctlResp →
    (s.ports.rspReady = true →
      exec i s = .next { s with ctl := ctlIdle, taken := s.taken ++ [{ value := s.w, err := s.errl }] }) ∧
    (s.ports.rspReady = false → exec i s = .next s)

/-- No command writes a parameter, a port or the host's coming moves, and the host's record grows only by a TAKE in RESP
(R48, R54, R32). The clauses on the host's coming moves and record, on the power-up mark and on the counter of free
values are about the model's own fields (notes/assumptions/2.md, 4.md and 6.md), and that the parameters and ports
stand in State is the model's (notes/assumptions/3.md and 4.md). How exec cuts a request into events is the model's
(notes/assumptions/7.md). -/
def Obligations.CommandsTouchOnlyTheController : Prop :=
  ∀ (i : Instr) (s t : State), exec i s = .next t →
    t.params = s.params ∧ t.ports = s.ports ∧ t.hostMoves = s.hostMoves ∧ t.everReset = s.everReset ∧
      t.freeCount = s.freeCount ∧
      (t.taken = s.taken ∨ (s.ctl = ctlResp ∧ s.ports.rspReady = true ∧ t.ctl = ctlIdle ∧
        t.taken = s.taken ++ [{ value := s.w, err := s.errl }]))

/-- A step in IDLE runs the command the offered word decodes to (R203, R31, R61). In an accepted elaboration, out of
reset, with no reset requested, in IDLE with a request offered: if the word on req_cmd decodes to i, the step is exec
of i at that state, and then the host's move of the ports (the model's form of the host, notes/assumptions/4.md). -/
def Obligations.StepRunsTheOfferedCommand : Prop :=
  ∀ (s : State) (i : Instr), elaborates s.params = true → s.everReset = true → s.ports.rst = false → s.ctl = ctlIdle →
    s.ports.reqValid = true → decode s.ports.reqCmd = .command i → step s = thenHost (exec i s)

/-- A step in RUN runs the command that the latched registers name (R204, R36, R41). Reading the command in flight from
the registers is the model's (notes/assumptions/7.md). The host's move after the event is the model's form of the host
(notes/assumptions/4.md). -/
def Obligations.StepRunsTheCommandInFlight : Prop :=
  ∀ s : State, elaborates s.params = true → s.everReset = true → s.ports.rst = false → s.ctl = ctlRun →
    (s.kf = 1 → ∃ i, IsKForm (dirOfBit s.dirl) s.r i ∧ step s = thenHost (exec i s)) ∧
      (s.kf = 0 → s.dirl = 0 → step s = thenHost (exec .shlR s)) ∧
      (s.kf = 0 → s.dirl = 1 → step s = thenHost (exec .shrR s))

/-- An offered word that names no command is answered with code ILLEGAL in one step (R232, R235, R203). The host's move
after the event is the model's form of the host (notes/assumptions/4.md). -/
def Obligations.IllegalWordGetsItsErrorResponse : Prop :=
  ∀ (s : State) (why : DecodeRefusal), elaborates s.params = true → s.everReset = true → s.ports.rst = false →
    s.ctl = ctlIdle → s.ports.reqValid = true → decode s.ports.reqCmd = .illegal why →
    step s = .next (State.hostDrives
      { s with dirl := s.ports.reqCmd.extractLsb' 8 1, kf := 1 - s.ports.reqCmd.extractLsb' 9 1, w := 0, r := 0,
               errl := errIllegal, ctl := ctlResp })

/-- While rst is asserted a step is RESET and nothing else (R261, R239, R260). The premise that shuts out CTL = 3 after a
reset, where the model stops, and the mark that a reset has happened are the model's (notes/assumptions/6.md,
DEDUCED). The host's record and its move after the event are the model's (notes/assumptions/4.md). -/
def Obligations.ResetOutranksEveryEvent : Prop :=
  ∀ s : State, elaborates s.params = true → (s.everReset = true → s.ctl ≠ 3) → s.ports.rst = true →
    ∃ t, step s = .next t ∧ t.ctl = ctlIdle ∧ t.reqReady = true ∧ t.rspValid = false ∧ t.params = s.params ∧
      t.taken = s.taken ∧ t.everReset = true

/-- Where a step stops: a refused elaboration, CTL = 3, and power-up before the first reset (R262, R37, R237, R266). That
CTL = 3 after a reset faults even while rst is asserted, and the mark that says whether a reset has happened, are the
model's reading of R37, R261 and R262 (notes/assumptions/6.md, DEDUCED). That a refused elaboration is a refusal at
every step is the model's form of having no behaviour (notes/assumptions/11.md). -/
def Obligations.WhereAStepStops : Prop :=
  ∀ s : State,
    (step s = .refused .elaboration ↔ elaborates s.params = false) ∧
      (elaborates s.params = true →
        (step s = .fault .beforeFirstReset ↔ s.everReset = false ∧ s.ports.rst = false) ∧
        (step s = .fault .illegalPhase ↔ s.everReset = true ∧ s.ctl = 3))

/-- With nothing offered in IDLE, or a response not taken in RESP, the controller does not change (R248, R268, R269). That
a step with no enabled event answers a next state with the controller unchanged is the model's reading of rules that
say only that the block waits (notes/assumptions/12.md, DEDUCED). The host's move after the event is the model's form
of the host (notes/assumptions/4.md). -/
def Obligations.IdleAndUntakenResponsesWait : Prop :=
  ∀ s : State, elaborates s.params = true → s.everReset = true → s.ports.rst = false →
    (s.ctl = ctlIdle → s.ports.reqValid = false → step s = .next s.hostDrives) ∧
      (s.ctl = ctlResp → s.ports.rspReady = false →
        ∃ t, step s = .next t ∧ t = s.hostDrives ∧ t.rspValue = some s.w ∧ t.rspErr = some s.errl)

/-- A step in RESP with rsp_ready gives the response and returns to IDLE (R206, R43, R241). The host's record is the
model's own field (notes/assumptions/4.md). That the two ports answer none outside RESP is the model's way to give no
value (notes/assumptions/10.md). -/
def Obligations.TakeGivesTheResponse : Prop :=
  ∀ s : State, elaborates s.params = true → s.everReset = true → s.ports.rst = false → s.ctl = ctlResp →
    s.ports.rspReady = true →
    ∃ (t : State) (q : Response), step s = .next t ∧ s.rspValue = some q.value ∧ s.rspErr = some q.err ∧
      t.taken = s.taken ++ [q] ∧ t.ctl = ctlIdle ∧ t.w = s.w ∧ t.r = s.r ∧ t.dirl = s.dirl ∧ t.kf = s.kf ∧
      t.errl = s.errl ∧ t.rspValue = none ∧ t.rspErr = none ∧ t.params = s.params

/-- The host receives a response only by TAKE in RESP, one at a time (R57, R261, R206). The host's record is the model's
own field (notes/assumptions/4.md). -/
def Obligations.ResponsesComeOnlyFromTake : Prop :=
  ∀ s t : State, step s = .next t →
    t.taken = s.taken ∨
      (s.ctl = ctlResp ∧ s.ports.rspReady = true ∧ s.ports.rst = false ∧ t.ctl = ctlIdle ∧
        t.taken = s.taken ++ [{ value := s.w, err := s.errl }])

/-- No step changes an elaboration parameter (R48, R265, R33). That the parameters stand in State is the model's
(notes/assumptions/3.md). -/
def Obligations.ParametersNeverChange : Prop :=
  ∀ s t : State, step s = .next t → t.params = s.params ∧ ∀ (dir : Dir) (d : Nat), sel t.params dir d = sel s.params dir d

/-- The state after reset is good, for every accepted elaboration (R260, R45, R44). The register contents it names are the
model's (notes/assumptions/1.md) and the statement does not use them. -/
def Obligations.ResetStateIsGood : Prop :=
  (∀ p : Params, elaborates p = true →
      Good (State.resetOf p) ∧ (State.resetOf p).reqReady = true ∧ (State.resetOf p).rspValid = false) ∧ Good State.reset

/-- Every step from a good state gives a good state (R44, R37, R42, R205, R76). The mark that a reset has happened is the
model's own field (notes/assumptions/6.md). -/
def Obligations.EveryStepKeepsGood : Prop :=
  ∀ s t : State, Good s → step s = .next t → Good t

/-- A good state always has a next state: no fault and no refusal is reachable (R205, R236, R37). That a step with no
enabled event is a next state is the model's (notes/assumptions/12.md, DEDUCED). -/
def Obligations.GoodStatesNeverStop : Prop :=
  ∀ s : State, Good s → ∃ t, step s = .next t

/-- ACCEPT establishes the decomposition invariant and every STEP keeps it (R209, R44). -/
def Obligations.DecompositionInvariantHolds : Prop :=
  (∀ s t : State, Good s → s.ports.rst = false → s.ctl = ctlIdle → s.ports.reqValid = true →
      decodeErr s.params s.ports.reqCmd = errOk → step s = .next t →
      t.ctl = ctlRun ∧ t.dirl = dirField s.ports.reqCmd ∧
        DecompositionInv s.ports.reqValue (requestDist s.ports.reqCmd s.ports.reqDist) t) ∧
    ∀ (v : Word32) (d : Dist) (s t : State), Good s → s.ports.rst = false → s.ctl = ctlRun → DecompositionInv v d s →
      step s = .next t →
      DecompositionInv v d t ∧ t.dirl = s.dirl ∧ (t.ctl = ctlRun ∨ t.ctl = ctlResp) ∧
        (t.ctl = ctlResp → t.w = shift32 (dirOfBit s.dirl) v d.toNat)

/-- Every offered request gets exactly the response it deserves, after exactly its number of STEPs (R210, R208, R49, R232,
R272, R231). A step of the model in RUN being a STEP is the model's form of weak fairness (notes/assumptions/15.md).
The host's coming moves, by which no reset is said to come, are the model's own field (notes/assumptions/4.md). -/
def Obligations.RequestGetsItsExactResponse : Prop :=
  ∀ s : State, Offers s →
    (∃ t, runSteps (stepsForRequest s.params s.ports.reqCmd s.ports.reqDist + 1) s = .next t ∧ t.ctl = ctlResp ∧
        t.rspValue = some (responseOf s.params s.ports.reqCmd s.ports.reqValue s.ports.reqDist).value ∧
        t.rspErr = some (responseOf s.params s.ports.reqCmd s.ports.reqValue s.ports.reqDist).err ∧ t.taken = s.taken) ∧
      ∀ k, k < stepsForRequest s.params s.ports.reqCmd s.ports.reqDist → ∃ u, runSteps (k + 1) s = .next u ∧ u.ctl = ctlRun

/-- From RUN the block reaches RESP within 16 STEPs (R272, R208). A step of the model in RUN is a STEP, so weak fairness
is built in (notes/assumptions/15.md). The host's coming moves, by which no reset is said to come, are the model's own
field (notes/assumptions/4.md). -/
def Obligations.AcceptedRequestsRespondWithinSixteenSteps : Prop :=
  ∀ s : State, Good s → NoReset s → s.ctl = ctlRun → ∃ k t, 1 ≤ k ∧ k ≤ 16 ∧ runSteps k s = .next t ∧ t.ctl = ctlResp

/-- STEP counts: at most 16, floor(d / 16) + 1 for R forms, one with OPT = 0, and the sample totals of R208 (R208, R275). -/
def Obligations.StepCounts : Prop :=
  (∀ (p : Params) (kf : BitVec 1) (dir : Dir) (d : Nat), d ≤ 255 → 1 ≤ stepsOf p kf dir d ∧ stepsOf p kf dir d ≤ 16) ∧
    (∀ (p : Params) (kf : BitVec 1) (dir : Dir) (d : Nat), p.opt = 0 → stepsOf p kf dir d = 1) ∧
    (∀ (p : Params) (dir : Dir) (d : Nat), p.opt = 1 → stepsOf p 0 dir d = d / 16 + 1) ∧
    (∀ (p : Params) (dir : Dir) (d : Nat), p.opt = 1 → d ≤ 255 → (stepsOf p 0 dir d = 16 ↔ 240 ≤ d)) ∧
    (∀ (p : Params) (dir : Dir) (d k : Nat), p.opt = 1 → sel p dir (d - 16 * k) ≠ .decomp →
      (∀ j < k, sel p dir (d - 16 * j) = .decomp) → stepsOf p 1 dir d = k + 1) ∧
    ∀ (p : Params) (dir : Dir), p.opt = 1 → p.fallbackL = [1, 2, 3, 8, 24] → p.fallbackR = [1, 2, 3, 8, 24] →
      (∀ d : Nat, d ≤ 255 → (stepsOf p 1 dir d = 16 ↔ 241 ≤ d ∧ d ≠ 248)) ∧
      sampleDistances.map (stepsOf p 1 dir) = [1, 1, 1, 2, 2, 7, 15, 16] ∧
      sampleDistances.map (stepsOf p 0 dir) = [1, 2, 2, 3, 3, 7, 16, 16]

/-- A K form and the R form with the same direction, value and distance give the same response (R213, R210). A step of the
model in RUN being a STEP is the model's form of weak fairness (notes/assumptions/15.md). -/
def Obligations.ImmediateAndRunTimeFormsAgree : Prop :=
  ∀ (a b : State) (dir : Dir) (d : Dist), Offers a → Offers b → a.params = b.params → a.params.rta ≠ 0 →
    resolve a.params dir d.toNat = true → a.ports.reqCmd = cmdWord 0 0 (bitOfDir dir) d →
    b.ports.reqCmd = cmdWord 0 1 (bitOfDir dir) 0 → b.ports.reqDist = d → b.ports.reqValue = a.ports.reqValue →
    ∃ t u, runSteps (stepsOf a.params 1 dir d.toNat + 1) a = .next t ∧ runSteps (stepsOf a.params 0 dir d.toNat + 1) b = .next u ∧
      t.ctl = ctlResp ∧ u.ctl = ctlResp ∧ t.rspValue = u.rspValue ∧ t.rspErr = u.rspErr

/-- An instance with OPT = 0 and one with OPT = 1 that resolves every distance answer every word alike (R194, R193). A
step of the model in RUN being a STEP is the model's form of weak fairness (notes/assumptions/15.md). -/
def Obligations.OptimizedAndPlainInstancesAgree : Prop :=
  ∀ a b : State, Offers a → Offers b → a.params.opt = 0 → b.params.opt = 1 → a.params.rta = b.params.rta →
    (∀ (dir : Dir) (d : Nat), d ≤ 255 → resolve b.params dir d = true) →
    a.ports.reqCmd = b.ports.reqCmd → a.ports.reqValue = b.ports.reqValue → a.ports.reqDist = b.ports.reqDist →
    ∃ t u, runSteps (stepsForRequest a.params a.ports.reqCmd a.ports.reqDist + 1) a = .next t ∧
      runSteps (stepsForRequest b.params b.ports.reqCmd b.ports.reqDist + 1) b = .next u ∧
      t.ctl = ctlResp ∧ u.ctl = ctlResp ∧ t.rspValue = u.rspValue ∧ t.rspErr = u.rspErr

/-- A legal request with a distance of 32 or more answers 0 (R211, R210). A step of the model in RUN being a STEP is the
model's form of weak fairness (notes/assumptions/15.md). -/
def Obligations.FullShiftOut : Prop :=
  ∀ s : State, Offers s → decodeErr s.params s.ports.reqCmd = errOk →
    32 ≤ (requestDist s.ports.reqCmd s.ports.reqDist).toNat →
    ∃ t, runSteps (stepsForRequest s.params s.ports.reqCmd s.ports.reqDist + 1) s = .next t ∧
      t.rspValue = some 0 ∧ t.rspErr = some errOk

/-- The first event of a request does not depend on what the registers held (R45, R49, R203). -/
def Obligations.AcceptReadsNoUnspecifiedRegister : Prop :=
  ∀ (s : State) (w : Word32) (r : Dist) (dirl kf : BitVec 1) (errl : BitVec 2), Good s → s.ports.rst = false →
    s.ctl = ctlIdle → s.ports.reqValid = true →
    ∃ t, step s = .next t ∧ step { s with w := w, r := r, dirl := dirl, kf := kf, errl := errl } = .next t

/-- In RUN the levels on the ports do not reach the controller (R61, R267, R204). -/
def Obligations.PortsDoNotReachTheRequestInFlight : Prop :=
  ∀ (s : State) (p : Ports), Good s → s.ctl = ctlRun → s.ports.rst = false → p.rst = false →
    ∃ t, blockEvent s = .next t ∧ blockEvent { s with ports := p } = .next { t with ports := p }

/-- The assembler refuses what R81 lists, naming the first such line and giving no output, and emits no error command
(R81, R237, R233, R234, R214). What counts as a blank, a token and a literal, and that a value of more than 32 bits is
refused, is the model's (notes/assumptions/13.md). The rules ask only for a refusal and a diagnostic that names the
line: which cause it gives when several hold, the distance's range first, that one diagnostic is given, for the first
refused line, and that lines count from 1, is the model's (notes/assumptions/17.md). -/
def Obligations.AssemblerNeverEmitsAnErrorCommand : Prop :=
  (∀ (p : Params) (program : List (List Char)) (out : List Request), assemble p program = .output out →
      ∀ q ∈ out, decodeErr p q.cmd = errOk) ∧
    (∀ (p : Params) (v d : Nat) (l : AsmLine), l ∈ kLines .left v d ++ kLines .right v d ++ rLines v d → 255 < d →
      assembleLine p l = .refusal .distanceRange) ∧
    (∀ (p : Params) (dir : Dir) (v d : Nat) (l : AsmLine), l ∈ kLines dir v d → resolve p dir d = false →
      ∃ why, assembleLine p l = .refusal why ∧ (d ≤ 255 → v < 2 ^ 32 → why = .noTransform)) ∧
    (∀ (p : Params) (v d : Nat) (l : AsmLine), l ∈ rLines v d → p.rta = 0 →
      ∃ why, assembleLine p l = .refusal why ∧ (d ≤ 255 → v < 2 ^ 32 → why = .noRunTime)) ∧
    (∀ (v d : Nat) (vs ds : List Char), literal vs = some v → literal ds = some d →
      parseTokens [.word ['S', 'H', 'L', '.', 'K'], .hash, .word ds, .comma, .word vs] = some (.shlK d v) ∧
      parseTokens [.word ['S', 'H', 'R', '.', 'K'], .hash, .word ds, .comma, .word vs] = some (.shrK d v) ∧
      parseTokens [.word ['S', 'H', 'L', '.', 'R'], .word vs, .comma, .word ds] = some (.shlR v d) ∧
      parseTokens [.word ['S', 'H', 'R', '.', 'R'], .word vs, .comma, .word ds] = some (.shrR v d)) ∧
    (∀ (m : List Char) (ts : List Token), m ∉ assemblyMnemonics → parseTokens (.word m :: ts) = none) ∧
    ∀ (p : Params) (before after : List (List Char)) (line : List Char) (out : List Request) (why : AsmRefusal),
      assemble p before = .output out → LineRefused p line why →
      assemble p (before ++ line :: after) = .refusal { line := before.length + 1, why := why }

/-- The pseudo-instructions stand for their command words (R82). That req_dist is 0 beside a K form, that a value has at
most 32 bits, and the abstract form of the calls with a run-time distance are the model's (notes/assumptions/13.md). -/
def Obligations.PseudoInstructionsExpand : Prop :=
  ∀ (p : Params) (v d : Nat), v < 2 ^ 32 → d ≤ 255 →
    (resolve p .left d = true →
      assembleLine p (.lshiftConst v d) = .output { cmd := 0x0000 ||| BitVec.ofNat 16 d, value := BitVec.ofNat 32 v, dist := 0 }) ∧
    (resolve p .right d = true →
      assembleLine p (.rshiftConst v d) = .output { cmd := 0x0100 ||| BitVec.ofNat 16 d, value := BitVec.ofNat 32 v, dist := 0 }) ∧
    (p.rta ≠ 0 →
      assembleLine p (.lshiftRun v d) = .output { cmd := 0x0200, value := BitVec.ofNat 32 v, dist := BitVec.ofNat 8 d } ∧
      assembleLine p (.rshiftRun v d) = .output { cmd := 0x0300, value := BitVec.ofNat 32 v, dist := BitVec.ofNat 8 d }) ∧
    assembleLine p (.mov v) = .output { cmd := 0x0000, value := BitVec.ofNat 32 v, dist := 0 } ∧
    assembleLine p (.perm16L v) = .output { cmd := 0x0010, value := BitVec.ofNat 32 v, dist := 0 } ∧
    assembleLine p (.perm16R v) = .output { cmd := 0x0110, value := BitVec.ofNat 32 v, dist := 0 } ∧
    assembleLine p (.clr v) = .output { cmd := 0x0020, value := BitVec.ofNat 32 v, dist := 0 }
end

