-- ==== Sys2Proof/Laws/Command.lean ====
section
/-! SUPPORT. The fields of a command word made of fields (30_encoding.md R65). -/

namespace Sys2Proof

@[simp] theorem rsvField_cmdWord (a : BitVec 6) (b c : BitVec 1) (d : Dist) : rsvField (cmdWord a b c d) = a := by
  unfold rsvField cmdWord
  refine BitVec.eq_of_getLsbD_eq fun i hi => ?_
  interval_cases i <;> simp

@[simp] theorem srcField_cmdWord (a : BitVec 6) (b c : BitVec 1) (d : Dist) : srcField (cmdWord a b c d) = b := by
  unfold srcField cmdWord
  refine BitVec.eq_of_getLsbD_eq fun i hi => ?_
  interval_cases i; simp

@[simp] theorem dirField_cmdWord (a : BitVec 6) (b c : BitVec 1) (d : Dist) : dirField (cmdWord a b c d) = c := by
  unfold dirField cmdWord
  refine BitVec.eq_of_getLsbD_eq fun i hi => ?_
  interval_cases i; simp

@[simp] theorem distField_cmdWord (a : BitVec 6) (b c : BitVec 1) (d : Dist) : distField (cmdWord a b c d) = d := by
  unfold distField cmdWord
  refine BitVec.eq_of_getLsbD_eq fun i hi => ?_
  interval_cases i <;> simp

/-- A word is made of its four fields (R65). -/
theorem cmdWord_fields (w : Cmd) : cmdWord (rsvField w) (srcField w) (dirField w) (distField w) = w := by
  unfold rsvField srcField dirField distField cmdWord
  refine BitVec.eq_of_getLsbD_eq fun i hi => ?_
  interval_cases i <;> simp

@[simp] theorem dirOfBit_bitOfDir (dir : Dir) : dirOfBit (bitOfDir dir) = dir := by cases dir <;> rfl

theorem bit_cases (b : BitVec 1) : b = 0 ∨ b = 1 := by revert b; decide

@[simp] theorem bitOfDir_dirOfBit (b : BitVec 1) : bitOfDir (dirOfBit b) = b := by
  rcases bit_cases b with h | h <;> subst h <;> rfl

end Sys2Proof
end

