-- ==== Sys2Proof/Laws/State.lean ====
section
/-! SUPPORT. One lemma for each field and each update of the state, so that no later proof unfolds an update. -/

namespace Sys2Proof.Machine

/-! `errorResponse` -/

@[simp] theorem State.errorResponse_params (cmd : Cmd) (e : BitVec 2) (s : State) : (s.errorResponse cmd e).params = s.params := rfl
@[simp] theorem State.errorResponse_ctl (cmd : Cmd) (e : BitVec 2) (s : State) : (s.errorResponse cmd e).ctl = ctlResp := rfl
@[simp] theorem State.errorResponse_w (cmd : Cmd) (e : BitVec 2) (s : State) : (s.errorResponse cmd e).w = 0 := rfl
@[simp] theorem State.errorResponse_r (cmd : Cmd) (e : BitVec 2) (s : State) : (s.errorResponse cmd e).r = 0 := rfl
@[simp] theorem State.errorResponse_dirl (cmd : Cmd) (e : BitVec 2) (s : State) : (s.errorResponse cmd e).dirl = dirField cmd := rfl
@[simp] theorem State.errorResponse_kf (cmd : Cmd) (e : BitVec 2) (s : State) : (s.errorResponse cmd e).kf = formBit cmd := rfl
@[simp] theorem State.errorResponse_errl (cmd : Cmd) (e : BitVec 2) (s : State) : (s.errorResponse cmd e).errl = e := rfl
@[simp] theorem State.errorResponse_ports (cmd : Cmd) (e : BitVec 2) (s : State) : (s.errorResponse cmd e).ports = s.ports := rfl
@[simp] theorem State.errorResponse_hostMoves (cmd : Cmd) (e : BitVec 2) (s : State) : (s.errorResponse cmd e).hostMoves = s.hostMoves := rfl
@[simp] theorem State.errorResponse_taken (cmd : Cmd) (e : BitVec 2) (s : State) : (s.errorResponse cmd e).taken = s.taken := rfl
@[simp] theorem State.errorResponse_everReset (cmd : Cmd) (e : BitVec 2) (s : State) : (s.errorResponse cmd e).everReset = s.everReset := rfl
@[simp] theorem State.errorResponse_freeCount (cmd : Cmd) (e : BitVec 2) (s : State) : (s.errorResponse cmd e).freeCount = s.freeCount := rfl

/-! `latch` -/

@[simp] theorem State.latch_params (cmd : Cmd) (value : Word32) (dist : Dist) (s : State) : (s.latch cmd value dist).params = s.params := rfl
@[simp] theorem State.latch_ctl (cmd : Cmd) (value : Word32) (dist : Dist) (s : State) : (s.latch cmd value dist).ctl = ctlRun := rfl
@[simp] theorem State.latch_w (cmd : Cmd) (value : Word32) (dist : Dist) (s : State) : (s.latch cmd value dist).w = value := rfl
@[simp] theorem State.latch_r (cmd : Cmd) (value : Word32) (dist : Dist) (s : State) : (s.latch cmd value dist).r = requestDist cmd dist := rfl
@[simp] theorem State.latch_dirl (cmd : Cmd) (value : Word32) (dist : Dist) (s : State) : (s.latch cmd value dist).dirl = dirField cmd := rfl
@[simp] theorem State.latch_kf (cmd : Cmd) (value : Word32) (dist : Dist) (s : State) : (s.latch cmd value dist).kf = formBit cmd := rfl
@[simp] theorem State.latch_errl (cmd : Cmd) (value : Word32) (dist : Dist) (s : State) : (s.latch cmd value dist).errl = errOk := rfl
@[simp] theorem State.latch_ports (cmd : Cmd) (value : Word32) (dist : Dist) (s : State) : (s.latch cmd value dist).ports = s.ports := rfl
@[simp] theorem State.latch_hostMoves (cmd : Cmd) (value : Word32) (dist : Dist) (s : State) : (s.latch cmd value dist).hostMoves = s.hostMoves := rfl
@[simp] theorem State.latch_taken (cmd : Cmd) (value : Word32) (dist : Dist) (s : State) : (s.latch cmd value dist).taken = s.taken := rfl
@[simp] theorem State.latch_everReset (cmd : Cmd) (value : Word32) (dist : Dist) (s : State) : (s.latch cmd value dist).everReset = s.everReset := rfl
@[simp] theorem State.latch_freeCount (cmd : Cmd) (value : Word32) (dist : Dist) (s : State) : (s.latch cmd value dist).freeCount = s.freeCount := rfl

/-! `permuted` -/

@[simp] theorem State.permuted_params (dir : Dir) (d : Dist) (s : State) : (s.permuted dir d).params = s.params := rfl
@[simp] theorem State.permuted_ctl (dir : Dir) (d : Dist) (s : State) : (s.permuted dir d).ctl = s.ctl := rfl
@[simp] theorem State.permuted_w (dir : Dir) (d : Dist) (s : State) : (s.permuted dir d).w = perm16 dir s.w := rfl
@[simp] theorem State.permuted_r (dir : Dir) (d : Dist) (s : State) : (s.permuted dir d).r = d - 16 := rfl
@[simp] theorem State.permuted_dirl (dir : Dir) (d : Dist) (s : State) : (s.permuted dir d).dirl = s.dirl := rfl
@[simp] theorem State.permuted_kf (dir : Dir) (d : Dist) (s : State) : (s.permuted dir d).kf = s.kf := rfl
@[simp] theorem State.permuted_errl (dir : Dir) (d : Dist) (s : State) : (s.permuted dir d).errl = s.errl := rfl
@[simp] theorem State.permuted_ports (dir : Dir) (d : Dist) (s : State) : (s.permuted dir d).ports = s.ports := rfl
@[simp] theorem State.permuted_hostMoves (dir : Dir) (d : Dist) (s : State) : (s.permuted dir d).hostMoves = s.hostMoves := rfl
@[simp] theorem State.permuted_taken (dir : Dir) (d : Dist) (s : State) : (s.permuted dir d).taken = s.taken := rfl
@[simp] theorem State.permuted_everReset (dir : Dir) (d : Dist) (s : State) : (s.permuted dir d).everReset = s.everReset := rfl
@[simp] theorem State.permuted_freeCount (dir : Dir) (d : Dist) (s : State) : (s.permuted dir d).freeCount = s.freeCount := rfl

/-! `responding` -/

@[simp] theorem State.responding_params (v : Word32) (s : State) : (s.responding v).params = s.params := rfl
@[simp] theorem State.responding_ctl (v : Word32) (s : State) : (s.responding v).ctl = ctlResp := rfl
@[simp] theorem State.responding_w (v : Word32) (s : State) : (s.responding v).w = v := rfl
@[simp] theorem State.responding_r (v : Word32) (s : State) : (s.responding v).r = 0 := rfl
@[simp] theorem State.responding_dirl (v : Word32) (s : State) : (s.responding v).dirl = s.dirl := rfl
@[simp] theorem State.responding_kf (v : Word32) (s : State) : (s.responding v).kf = s.kf := rfl
@[simp] theorem State.responding_errl (v : Word32) (s : State) : (s.responding v).errl = s.errl := rfl
@[simp] theorem State.responding_ports (v : Word32) (s : State) : (s.responding v).ports = s.ports := rfl
@[simp] theorem State.responding_hostMoves (v : Word32) (s : State) : (s.responding v).hostMoves = s.hostMoves := rfl
@[simp] theorem State.responding_taken (v : Word32) (s : State) : (s.responding v).taken = s.taken := rfl
@[simp] theorem State.responding_everReset (v : Word32) (s : State) : (s.responding v).everReset = s.everReset := rfl
@[simp] theorem State.responding_freeCount (v : Word32) (s : State) : (s.responding v).freeCount = s.freeCount := rfl

/-! `handOver` -/

@[simp] theorem State.handOver_params (s : State) : s.handOver.params = s.params := rfl
@[simp] theorem State.handOver_ctl (s : State) : s.handOver.ctl = ctlIdle := rfl
@[simp] theorem State.handOver_w (s : State) : s.handOver.w = s.w := rfl
@[simp] theorem State.handOver_r (s : State) : s.handOver.r = s.r := rfl
@[simp] theorem State.handOver_dirl (s : State) : s.handOver.dirl = s.dirl := rfl
@[simp] theorem State.handOver_kf (s : State) : s.handOver.kf = s.kf := rfl
@[simp] theorem State.handOver_errl (s : State) : s.handOver.errl = s.errl := rfl
@[simp] theorem State.handOver_ports (s : State) : s.handOver.ports = s.ports := rfl
@[simp] theorem State.handOver_hostMoves (s : State) : s.handOver.hostMoves = s.hostMoves := rfl
@[simp] theorem State.handOver_taken (s : State) : s.handOver.taken = s.taken ++ [{ value := s.w, err := s.errl }] := rfl
@[simp] theorem State.handOver_everReset (s : State) : s.handOver.everReset = s.everReset := rfl
@[simp] theorem State.handOver_freeCount (s : State) : s.handOver.freeCount = s.freeCount := rfl

/-! `resetEvent` -/

@[simp] theorem State.resetEvent_params (s : State) : s.resetEvent.params = s.params := rfl
@[simp] theorem State.resetEvent_ctl (s : State) : s.resetEvent.ctl = ctlIdle := rfl
@[simp] theorem State.resetEvent_w (s : State) : s.resetEvent.w = Config.unspecifiedW s.freeCount := rfl
@[simp] theorem State.resetEvent_r (s : State) : s.resetEvent.r = Config.unspecifiedR s.freeCount := rfl
@[simp] theorem State.resetEvent_dirl (s : State) : s.resetEvent.dirl = Config.unspecifiedDirl s.freeCount := rfl
@[simp] theorem State.resetEvent_kf (s : State) : s.resetEvent.kf = Config.unspecifiedKf s.freeCount := rfl
@[simp] theorem State.resetEvent_errl (s : State) : s.resetEvent.errl = Config.unspecifiedErrl s.freeCount := rfl
@[simp] theorem State.resetEvent_ports (s : State) : s.resetEvent.ports = s.ports := rfl
@[simp] theorem State.resetEvent_hostMoves (s : State) : s.resetEvent.hostMoves = s.hostMoves := rfl
@[simp] theorem State.resetEvent_taken (s : State) : s.resetEvent.taken = s.taken := rfl
@[simp] theorem State.resetEvent_everReset (s : State) : s.resetEvent.everReset = true := rfl
@[simp] theorem State.resetEvent_freeCount (s : State) : s.resetEvent.freeCount = s.freeCount + 1 := rfl

/-! `offering` -/

@[simp] theorem State.offering_params (cmd : Cmd) (s : State) : (s.offering cmd).params = s.params := rfl
@[simp] theorem State.offering_ctl (cmd : Cmd) (s : State) : (s.offering cmd).ctl = ctlIdle := rfl
@[simp] theorem State.offering_w (cmd : Cmd) (s : State) : (s.offering cmd).w = s.w := rfl
@[simp] theorem State.offering_r (cmd : Cmd) (s : State) : (s.offering cmd).r = s.r := rfl
@[simp] theorem State.offering_dirl (cmd : Cmd) (s : State) : (s.offering cmd).dirl = s.dirl := rfl
@[simp] theorem State.offering_kf (cmd : Cmd) (s : State) : (s.offering cmd).kf = s.kf := rfl
@[simp] theorem State.offering_errl (cmd : Cmd) (s : State) : (s.offering cmd).errl = s.errl := rfl
@[simp] theorem State.offering_ports (cmd : Cmd) (s : State) : (s.offering cmd).ports = { s.ports with rst := false, reqValid := true, reqCmd := cmd } := rfl
@[simp] theorem State.offering_hostMoves (cmd : Cmd) (s : State) : (s.offering cmd).hostMoves = s.hostMoves := rfl
@[simp] theorem State.offering_taken (cmd : Cmd) (s : State) : (s.offering cmd).taken = s.taken := rfl
@[simp] theorem State.offering_everReset (cmd : Cmd) (s : State) : (s.offering cmd).everReset = true := rfl
@[simp] theorem State.offering_freeCount (cmd : Cmd) (s : State) : (s.offering cmd).freeCount = s.freeCount := rfl

/-! `hostDrives`: only the ports and the host's own list of moves change. -/

@[simp] theorem State.hostDrives_params (s : State) : s.hostDrives.params = s.params := by
  unfold State.hostDrives; split <;> rfl
@[simp] theorem State.hostDrives_ctl (s : State) : s.hostDrives.ctl = s.ctl := by
  unfold State.hostDrives; split <;> rfl
@[simp] theorem State.hostDrives_w (s : State) : s.hostDrives.w = s.w := by
  unfold State.hostDrives; split <;> rfl
@[simp] theorem State.hostDrives_r (s : State) : s.hostDrives.r = s.r := by
  unfold State.hostDrives; split <;> rfl
@[simp] theorem State.hostDrives_dirl (s : State) : s.hostDrives.dirl = s.dirl := by
  unfold State.hostDrives; split <;> rfl
@[simp] theorem State.hostDrives_kf (s : State) : s.hostDrives.kf = s.kf := by
  unfold State.hostDrives; split <;> rfl
@[simp] theorem State.hostDrives_errl (s : State) : s.hostDrives.errl = s.errl := by
  unfold State.hostDrives; split <;> rfl
@[simp] theorem State.hostDrives_taken (s : State) : s.hostDrives.taken = s.taken := by
  unfold State.hostDrives; split <;> rfl
@[simp] theorem State.hostDrives_everReset (s : State) : s.hostDrives.everReset = s.everReset := by
  unfold State.hostDrives; split <;> rfl
@[simp] theorem State.hostDrives_freeCount (s : State) : s.hostDrives.freeCount = s.freeCount := by
  unfold State.hostDrives; split <;> rfl

theorem State.hostDrives_nil (s : State) (h : s.hostMoves = []) : s.hostDrives = s := by
  unfold State.hostDrives; simp [h]

theorem State.hostDrives_cons (s : State) (p : Ports) (rest : List Ports) (h : s.hostMoves = p :: rest) :
    s.hostDrives = { s with ports := p, hostMoves := rest } := by
  unfold State.hostDrives; simp [h]

/-- Where the host's next levels come from. -/
theorem State.hostDrives_ports (s : State) : s.hostDrives.ports = s.ports ∨ s.hostDrives.ports ∈ s.hostMoves := by
  unfold State.hostDrives; split <;> simp_all

theorem State.hostDrives_moves_subset (s : State) : ∀ p ∈ s.hostDrives.hostMoves, p ∈ s.hostMoves := by
  unfold State.hostDrives; split <;> simp_all

end Sys2Proof.Machine
end

