-- ==== Sys2Proof/Laws/Ops.lean ====
section
/-! SUPPORT. What each shared operation can do, said once; later proofs cite these and do not unfold the operations. -/

namespace Sys2Proof.Machine

/-! ## Error codes -/

/-- The code of a K form's word: 0 or NO_TRANSFORM (60_exceptions.md R231). -/
theorem decodeErr_k (p : Params) (dir : Dir) (d : Dist) :
    decodeErr p (cmdWord 0 0 (bitOfDir dir) d) = if resolve p dir d.toNat = true then errOk else errNoTransform := by
  unfold decodeErr; cases h : resolve p dir d.toNat <;> simp [h]

/-- The code of an R form's word: 0 or NO_RUNTIME (R231). -/
theorem decodeErr_r (p : Params) (dir : Dir) :
    decodeErr p (cmdWord 0 1 (bitOfDir dir) 0) = if p.rta = 0 then errNoRuntime else errOk := by
  unfold decodeErr; by_cases h : p.rta = 0 <;> simp [h]

/-! ## ACCEPT -/

theorem accept_legal (cmd : Cmd) (v : Word32) (d : Dist) (s : State) (h : decodeErr s.params cmd = errOk) :
    accept cmd v d s = s.latch cmd v d := by
  unfold accept; simp [h]

theorem accept_error (cmd : Cmd) (v : Word32) (d : Dist) (s : State) (h : decodeErr s.params cmd ≠ errOk) :
    accept cmd v d s = s.errorResponse cmd (decodeErr s.params cmd) := by
  unfold accept; rw [if_pos h]

/-- ACCEPT latches a legal request or answers an error word, and does nothing else. -/
theorem accept_cases (cmd : Cmd) (v : Word32) (d : Dist) (s : State) :
    (decodeErr s.params cmd = errOk ∧ accept cmd v d s = s.latch cmd v d) ∨
      (decodeErr s.params cmd ≠ errOk ∧ accept cmd v d s = s.errorResponse cmd (decodeErr s.params cmd)) := by
  by_cases h : decodeErr s.params cmd = errOk
  · exact .inl ⟨h, accept_legal cmd v d s h⟩
  · exact .inr ⟨h, accept_error cmd v d s h⟩

@[simp] theorem accept_params (cmd : Cmd) (v : Word32) (d : Dist) (s : State) : (accept cmd v d s).params = s.params := by
  unfold accept; split <;> rfl
@[simp] theorem accept_ports (cmd : Cmd) (v : Word32) (d : Dist) (s : State) : (accept cmd v d s).ports = s.ports := by
  unfold accept; split <;> rfl
@[simp] theorem accept_hostMoves (cmd : Cmd) (v : Word32) (d : Dist) (s : State) :
    (accept cmd v d s).hostMoves = s.hostMoves := by
  unfold accept; split <;> rfl
@[simp] theorem accept_taken (cmd : Cmd) (v : Word32) (d : Dist) (s : State) : (accept cmd v d s).taken = s.taken := by
  unfold accept; split <;> rfl
@[simp] theorem accept_everReset (cmd : Cmd) (v : Word32) (d : Dist) (s : State) :
    (accept cmd v d s).everReset = s.everReset := by
  unfold accept; split <;> rfl
@[simp] theorem accept_freeCount (cmd : Cmd) (v : Word32) (d : Dist) (s : State) :
    (accept cmd v d s).freeCount = s.freeCount := by
  unfold accept; split <;> rfl

/-! ## STEP -/

/-- The final selection answers a value or meets one of the two unreachable arms (44_decomposition_dispatch.md R205). -/
theorem apply_cases (p : Params) (dir : Dir) (r : Nat) (x : Word32) :
    (∃ v, apply p dir r x = .ok v) ∨ (apply p dir r x = .error .muxDecomp ∧ sel p dir r = .decomp) ∨
      (apply p dir r x = .error .muxNone ∧ sel p dir r = .none) := by
  unfold apply; cases h : sel p dir r <;> simp

/-- STEP permutes, or responds with what the selection answers, or faults in the selection (R204, R205). -/
theorem stepEvent_cases (kf : BitVec 1) (dir : Dir) (r : Dist) (s : State) :
    (s.params.opt = 1 ∧ decomposes s.params kf dir r.toNat = true ∧ stepEvent kf dir r s = .next (s.permuted dir r)) ∨
      (¬(s.params.opt = 1 ∧ decomposes s.params kf dir r.toNat = true) ∧
        ((∃ v, apply s.params dir r.toNat s.w = .ok v ∧ stepEvent kf dir r s = .next (s.responding v)) ∨
          (sel s.params dir r.toNat = .decomp ∧ stepEvent kf dir r s = .fault .muxDecomp) ∨
          (sel s.params dir r.toNat = .none ∧ stepEvent kf dir r s = .fault .muxNone))) := by
  by_cases hd : s.params.opt = 1 ∧ decomposes s.params kf dir r.toNat = true
  · exact .inl ⟨hd.1, hd.2, by unfold stepEvent; rw [if_pos hd]⟩
  · refine .inr ⟨hd, ?_⟩
    rcases apply_cases s.params dir r.toNat s.w with ⟨v, hv⟩ | ⟨ha, hs⟩ | ⟨ha, hs⟩
    · exact .inl ⟨v, hv, by unfold stepEvent; rw [if_neg hd, hv]⟩
    · exact .inr (.inl ⟨hs, by unfold stepEvent; rw [if_neg hd, ha]⟩)
    · exact .inr (.inr ⟨hs, by unfold stepEvent; rw [if_neg hd, ha]⟩)

/-! ## TAKE -/

theorem takeOrHold_cases (s : State) :
    (s.ports.rspReady = true ∧ takeOrHold s = s.handOver) ∨ (s.ports.rspReady = false ∧ takeOrHold s = s) := by
  unfold takeOrHold; cases h : s.ports.rspReady <;> simp

/-! ## The life of a request -/

theorem kRequest_idle (dir : Dir) (d : Dist) (s : State) (h : s.ctl = ctlIdle) :
    kRequest dir d s = .next (accept (cmdWord 0 0 (bitOfDir dir) d) s.ports.reqValue s.ports.reqDist s) := by
  unfold kRequest; simp [h]

theorem kRequest_run (dir : Dir) (d : Dist) (s : State) (h : s.ctl = ctlRun) : kRequest dir d s = stepEvent 1 dir d s := by
  unfold kRequest; simp [h]

theorem kRequest_resp (dir : Dir) (d : Dist) (s : State) (h : s.ctl = ctlResp) : kRequest dir d s = .next (takeOrHold s) := by
  unfold kRequest; simp [h]

theorem rRequest_idle (dir : Dir) (s : State) (h : s.ctl = ctlIdle) :
    rRequest dir s = .next (accept (cmdWord 0 1 (bitOfDir dir) 0) s.ports.reqValue s.ports.reqDist s) := by
  unfold rRequest; simp [h]

theorem rRequest_run (dir : Dir) (s : State) (h : s.ctl = ctlRun) : rRequest dir s = stepEvent 0 dir s.r s := by
  unfold rRequest; simp [h]

theorem rRequest_resp (dir : Dir) (s : State) (h : s.ctl = ctlResp) : rRequest dir s = .next (takeOrHold s) := by
  unfold rRequest; simp [h]

/-- The command that the decoder names for a K form's direction and distance is that request. -/
theorem exec_kInstr (dir : Dir) (d : Dist) (s : State) : exec (kInstr dir d) s = kRequest dir d s := by
  have key : ∀ n : Nat, d.toNat = n → d = BitVec.ofNat 8 n := fun n h => by
    rw [← h]; simp
  cases dir <;> unfold kInstr <;> dsimp only <;> split <;>
    first
      | rfl
      | (rename_i h; rw [key _ h]; rfl)

/-- The same for an R form. -/
theorem exec_rInstr (dir : Dir) (s : State) : exec (rInstr dir) s = rRequest dir s := by cases dir <;> rfl

/-- The command in flight is a K request at the latched direction and distance, or an R request (10_state.md R36). -/
theorem exec_inFlight (s : State) :
    exec (inFlight s) s = if s.kf = 1 then kRequest (dirOfBit s.dirl) s.r s else rRequest (dirOfBit s.dirl) s := by
  unfold inFlight; split
  · exact exec_kInstr _ _ _
  · exact exec_rInstr _ _

/-- In `RUN` the command in flight takes the STEP that the latched registers ask for (44_decomposition_dispatch.md R204). -/
theorem exec_inFlight_run (s : State) (h : s.ctl = ctlRun) :
    exec (inFlight s) s = stepEvent s.kf (dirOfBit s.dirl) s.r s := by
  rw [exec_inFlight]
  rcases bit_cases s.kf with hk | hk
  · simp [hk, rRequest_run _ _ h]
  · simp [hk, kRequest_run _ _ _ h]

/-- A word that the decoder reads is the word of that command, so what its command does in `IDLE` is ACCEPT of the word on
the port (R203). -/
theorem exec_decoded_idle (s : State) (cmd : Cmd) (i : Instr) (hd : decode cmd = .command i) (h : s.ctl = ctlIdle) :
    exec i s = .next (accept cmd s.ports.reqValue s.ports.reqDist s) := by
  have hw := cmdWord_fields cmd
  unfold decode at hd
  split at hd
  · cases hd
  · rename_i hr
    have hr : rsvField cmd = 0 := by simpa using hr
    split at hd
    · rename_i hs
      split at hd
      · cases hd
      · rename_i hz
        have hz : distField cmd = 0 := by simpa using hz
        injection hd with hd
        rw [← hd, exec_rInstr, rRequest_idle _ _ h]
        rw [hr, hs, hz] at hw
        simp only [bitOfDir_dirOfBit, hw]
    · rename_i hs
      have hs : srcField cmd = 0 := (bit_cases _).resolve_right hs
      injection hd with hd
      rw [← hd, exec_kInstr, kRequest_idle _ _ _ h]
      rw [hr, hs] at hw
      simp only [bitOfDir_dirOfBit, hw]

/-- Everything the event of `IDLE` can do (R203; 60_exceptions.md R232, R248). -/
theorem idleEvent_eq (s : State) (h : s.ctl = ctlIdle) :
    idleEvent s =
      if s.ports.reqValid then .next (accept s.ports.reqCmd s.ports.reqValue s.ports.reqDist s) else .next s := by
  unfold idleEvent
  split
  · split
    · rename_i i hd; exact exec_decoded_idle s _ i hd h
    · rfl
  · rfl

/-- A step answers a next state only by the block's event and then the host's move, in an accepted elaboration. -/
theorem step_next_iff (s t : State) :
    step s = .next t ↔ elaborates s.params = true ∧ ∃ u, blockEvent s = .next u ∧ t = u.hostDrives := by
  unfold step instanceStep
  split
  · rename_i h
    cases hb : blockEvent s <;> simp [thenHost, h]
    exact eq_comm
  · rename_i h; simp [h]

/-- The step of an accepted elaboration. -/
theorem step_eq (s : State) (h : elaborates s.params = true) : step s = thenHost (blockEvent s) := by
  unfold step instanceStep; simp [h]

/-- Everything a block event that answers a next state can do (60_exceptions.md R239). -/
theorem blockEvent_cases (s t : State) (h : blockEvent s = .next t) :
    (s.ports.rst = true ∧ t = s.resetEvent) ∨
      (s.ports.rst = false ∧ s.everReset = true ∧
        ((s.ctl = ctlIdle ∧ s.ports.reqValid = true ∧ t = accept s.ports.reqCmd s.ports.reqValue s.ports.reqDist s) ∨
          (s.ctl = ctlIdle ∧ s.ports.reqValid = false ∧ t = s) ∨
          (s.ctl = ctlRun ∧ stepEvent s.kf (dirOfBit s.dirl) s.r s = .next t) ∨
          (s.ctl = ctlResp ∧ t = takeOrHold s))) := by
  unfold blockEvent at h
  split at h
  · cases h
  · rename_i h3
    split at h
    · rename_i hr; injection h with h; exact .inl ⟨hr, h.symm⟩
    · rename_i hr
      have hr : s.ports.rst = false := by simpa using hr
      split at h
      · cases h
      · rename_i he
        have he : s.everReset = true := by simpa using he
        refine .inr ⟨hr, he, ?_⟩
        split at h
        · rename_i hi
          rw [idleEvent_eq s hi] at h
          split at h
          · rename_i hv; injection h with h; exact .inl ⟨hi, hv, h.symm⟩
          · rename_i hv; injection h with h; exact .inr (.inl ⟨hi, by simpa using hv, h.symm⟩)
        · rename_i hi
          split at h
          · rename_i hrun; rw [exec_inFlight_run s hrun] at h; exact .inr (.inr (.inl ⟨hrun, h⟩))
          · rename_i hrun
            have hresp : s.ctl = ctlResp := by
              have hne : s.ctl ≠ 3 := fun hc => h3 ⟨he, hc⟩
              have key : ∀ c : BitVec 2, c ≠ 0 → c ≠ 1 → c ≠ 3 → c = 2 := by decide
              exact key _ hi hrun hne
            injection h with h
            exact .inr (.inr (.inr ⟨hresp, h.symm⟩))

end Sys2Proof.Machine
end

