-- ==== Sys2Proof/Laws/PerInstr.lean ====
section
/-! SUPPORT. Families of statements about every command, one lemma for each constructor. -/

/-- The fields of a well-formed command's word: `RSV` is zero, and an R form's `DIST` is zero (30_encoding.md R65, R69). -/
def Sys2Proof.Laws.EncodedFields.Statement (i : Sys2Proof.Instr) : Prop :=
  i.wf = true →
    Sys2Proof.rsvField (Sys2Proof.encode i) = 0 ∧
      (Sys2Proof.srcField (Sys2Proof.encode i) = 1 → Sys2Proof.distField (Sys2Proof.encode i) = 0)

namespace Sys2Proof.Laws.EncodedFields

theorem shlK0 : Statement .shlK0 := fun _ => by decide
theorem shlK1 : Statement .shlK1 := fun _ => by decide
theorem shlK2 : Statement .shlK2 := fun _ => by decide
theorem shlK3 : Statement .shlK3 := fun _ => by decide
theorem shlK4 : Statement .shlK4 := fun _ => by decide
theorem shlK5 : Statement .shlK5 := fun _ => by decide
theorem shlK6 : Statement .shlK6 := fun _ => by decide
theorem shlK7 : Statement .shlK7 := fun _ => by decide
theorem shlK8 : Statement .shlK8 := fun _ => by decide
theorem shlK9 : Statement .shlK9 := fun _ => by decide
theorem shlK10 : Statement .shlK10 := fun _ => by decide
theorem shlK11 : Statement .shlK11 := fun _ => by decide
theorem shlK12 : Statement .shlK12 := fun _ => by decide
theorem shlK13 : Statement .shlK13 := fun _ => by decide
theorem shlK14 : Statement .shlK14 := fun _ => by decide
theorem shlK15 : Statement .shlK15 := fun _ => by decide
theorem shlK16 : Statement .shlK16 := fun _ => by decide
theorem shlK24 : Statement .shlK24 := fun _ => by decide
theorem shlKDec (d : Dist) : Statement (.shlKDec d) := fun _ => by simp [encode]
theorem shrK0 : Statement .shrK0 := fun _ => by decide
theorem shrK1 : Statement .shrK1 := fun _ => by decide
theorem shrK2 : Statement .shrK2 := fun _ => by decide
theorem shrK3 : Statement .shrK3 := fun _ => by decide
theorem shrK4 : Statement .shrK4 := fun _ => by decide
theorem shrK5 : Statement .shrK5 := fun _ => by decide
theorem shrK6 : Statement .shrK6 := fun _ => by decide
theorem shrK7 : Statement .shrK7 := fun _ => by decide
theorem shrK8 : Statement .shrK8 := fun _ => by decide
theorem shrK9 : Statement .shrK9 := fun _ => by decide
theorem shrK10 : Statement .shrK10 := fun _ => by decide
theorem shrK11 : Statement .shrK11 := fun _ => by decide
theorem shrK12 : Statement .shrK12 := fun _ => by decide
theorem shrK13 : Statement .shrK13 := fun _ => by decide
theorem shrK14 : Statement .shrK14 := fun _ => by decide
theorem shrK15 : Statement .shrK15 := fun _ => by decide
theorem shrK16 : Statement .shrK16 := fun _ => by decide
theorem shrK24 : Statement .shrK24 := fun _ => by decide
theorem shrKDec (d : Dist) : Statement (.shrKDec d) := fun _ => by simp [encode]
theorem shlR : Statement .shlR := fun _ => by decide
theorem shrR : Statement .shrR := fun _ => by decide

end Sys2Proof.Laws.EncodedFields
end

