-- ==== Sys2Proof/Tests/Slice0.lean ====
section
/-! SUPPORT. The model's own tests. Expected values come from spec/: the encoding of 30_encoding.md, the tables of
95_test_vectors.md and the examples of the rules; and a witness for every statement that has hypotheses. -/

namespace Sys2Proof.Machine

/-! ## Helpers -/

/-- The next state of an outcome, if it is one. -/
def nextOf : Host.Outcome State Fault Refusal → Option State
  | .next s => some s
  | .fault _ => none
  | .refused _ => none

/-- A state in `IDLE` with a request offered. -/
def offered (p : Params) (cmd : Cmd) (v : Word32) (d : Dist) : State :=
  { State.resetOf p with ports := { Ports.quiet with reqValid := true, reqCmd := cmd, reqValue := v, reqDist := d } }

/-- A state in `RUN` with a request in flight. -/
def running (p : Params) (kf dirl : BitVec 1) (d : Dist) (v : Word32) : State :=
  { State.resetOf p with ctl := ctlRun, w := v, r := d, dirl := dirl, kf := kf }

/-- A state in `RESP` with a response, and the host ready for it or not. -/
def answering (v : Word32) (e : BitVec 2) (ready : Bool) : State :=
  { State.reset with ctl := ctlResp, w := v, errl := e, ports := { Ports.quiet with rspReady := ready } }

/-- What the step leaves in `W`, `R` and `CTL`. -/
def stepResult (s : State) : Option (Word32 × Dist × BitVec 2) := (nextOf (step s)).map fun t => (t.w, t.r, t.ctl)

/-- Whether one STEP of the K form at each distance turns `v` into the value beside it, with a response at once. -/
def oneStep (dirl : BitVec 1) (v : Word32) (rows : List (Dist × Word32)) : Bool :=
  rows.all fun t => stepResult (running Config.thisInstance 1 dirl t.1 v) == some (t.2, 0, ctlResp)

/-- Configuration B of 95_test_vectors.md 2.8: no run-time forms. -/
def configB : Params := { Config.thisInstance with rta := 0 }
/-- Configuration C: 1 is outside `FALLBACK_L`, and no run-time forms. -/
def configC : Params := { configB with fallbackL := [2, 3, 8, 24] }
/-- Configuration E: empty fallback sets, and no run-time forms. -/
def configE : Params := { configB with fallbackL := [], fallbackR := [] }
/-- Configuration F: `OPT` = 0, empty fallback sets. -/
def configF : Params := { opt := 0, rta := 1, fallbackL := [], fallbackR := [] }

/-! ## Well-formedness: one ill-formed command for each check -/

theorem test_wf_refuses_left_distance_below : Instr.wf (.shlKDec 16) = false := by decide
theorem test_wf_refuses_left_distance_24 : Instr.wf (.shlKDec 24) = false := by decide
theorem test_wf_refuses_right_distance_below : Instr.wf (.shrKDec 5) = false := by decide
theorem test_wf_refuses_right_distance_24 : Instr.wf (.shrKDec 24) = false := by decide
theorem test_wf_accepts_ends : Instr.wf (.shlKDec 17) = true ∧ Instr.wf (.shrKDec 255) = true := by decide

/-! ## Decoding: every constructor, by a word written out from R65 (RSV SRC DIR DIST) -/

theorem test_decode_shlK :
    decode 0b000000_0_0_00000000 = .command .shlK0 ∧
    decode 0b000000_0_0_00000001 = .command .shlK1 ∧
    decode 0b000000_0_0_00000010 = .command .shlK2 ∧
    decode 0b000000_0_0_00000011 = .command .shlK3 ∧
    decode 0b000000_0_0_00000100 = .command .shlK4 ∧
    decode 0b000000_0_0_00000101 = .command .shlK5 ∧
    decode 0b000000_0_0_00000110 = .command .shlK6 ∧
    decode 0b000000_0_0_00000111 = .command .shlK7 ∧
    decode 0b000000_0_0_00001000 = .command .shlK8 ∧
    decode 0b000000_0_0_00001001 = .command .shlK9 ∧
    decode 0b000000_0_0_00001010 = .command .shlK10 ∧
    decode 0b000000_0_0_00001011 = .command .shlK11 ∧
    decode 0b000000_0_0_00001100 = .command .shlK12 ∧
    decode 0b000000_0_0_00001101 = .command .shlK13 ∧
    decode 0b000000_0_0_00001110 = .command .shlK14 ∧
    decode 0b000000_0_0_00001111 = .command .shlK15 ∧
    decode 0b000000_0_0_00010000 = .command .shlK16 ∧
    decode 0b000000_0_0_00011000 = .command .shlK24 ∧
    decode 0b000000_0_0_00010001 = .command (.shlKDec 17) ∧
    decode 0b000000_0_0_00010010 = .command (.shlKDec 18) ∧
    decode 0b000000_0_0_00010111 = .command (.shlKDec 23) ∧
    decode 0b000000_0_0_00011001 = .command (.shlKDec 25) ∧
    decode 0b000000_0_0_11111111 = .command (.shlKDec 255) := by decide
theorem test_decode_shrK :
    decode 0b000000_0_1_00000000 = .command .shrK0 ∧
    decode 0b000000_0_1_00000001 = .command .shrK1 ∧
    decode 0b000000_0_1_00000010 = .command .shrK2 ∧
    decode 0b000000_0_1_00000011 = .command .shrK3 ∧
    decode 0b000000_0_1_00000100 = .command .shrK4 ∧
    decode 0b000000_0_1_00000101 = .command .shrK5 ∧
    decode 0b000000_0_1_00000110 = .command .shrK6 ∧
    decode 0b000000_0_1_00000111 = .command .shrK7 ∧
    decode 0b000000_0_1_00001000 = .command .shrK8 ∧
    decode 0b000000_0_1_00001001 = .command .shrK9 ∧
    decode 0b000000_0_1_00001010 = .command .shrK10 ∧
    decode 0b000000_0_1_00001011 = .command .shrK11 ∧
    decode 0b000000_0_1_00001100 = .command .shrK12 ∧
    decode 0b000000_0_1_00001101 = .command .shrK13 ∧
    decode 0b000000_0_1_00001110 = .command .shrK14 ∧
    decode 0b000000_0_1_00001111 = .command .shrK15 ∧
    decode 0b000000_0_1_00010000 = .command .shrK16 ∧
    decode 0b000000_0_1_00011000 = .command .shrK24 ∧
    decode 0b000000_0_1_00010001 = .command (.shrKDec 17) ∧
    decode 0b000000_0_1_00010010 = .command (.shrKDec 18) ∧
    decode 0b000000_0_1_00010111 = .command (.shrKDec 23) ∧
    decode 0b000000_0_1_00011001 = .command (.shrKDec 25) ∧
    decode 0b000000_0_1_11111111 = .command (.shrKDec 255) := by decide
theorem test_decode_runTime :
    decode 0b000000_1_0_00000000 = .command .shlR ∧ decode 0b000000_1_1_00000000 = .command .shrR := by decide
theorem test_decode_illegal :
    decode 0b000001_0_0_00000000 = .illegal .reservedBits ∧ decode 0b100000_0_0_00010001 = .illegal .reservedBits ∧
    decode 0b000000_1_0_00000001 = .illegal .runTimeDistance ∧ decode 0b000000_1_1_11111111 = .illegal .runTimeDistance := by
  decide
theorem test_decodeTableWord :
    decodeTableWord 16 0x0018 = some .shlK24 ∧ decodeTableWord 16 0x0180 = some (.shrKDec 128) ∧
    decodeTableWord 16 0x0300 = some .shrR ∧ decodeTableWord 16 0xFFFF = none := by decide

/-! ## Primitives (examples of R15, R181, R182; 95 sections 2.2, 2.4, 2.5) -/

theorem test_swap8 : swap8 0x35 = 0x53 := by decide
theorem test_shl1Chain : shl1Chain [0x01, 0x04, 0x6A] = [0x02, 0x08, 0xD4] := by decide
theorem test_shr1Chain : shr1Chain [0x00, 0x82, 0x35, 0x00, 0x00] = [0x00, 0x41, 0x1A, 0x80, 0x00] := by decide
theorem test_perm16 :
    perm16L 0x12345678 = 0x56780000 ∧ perm16R 0x12345678 = 0x00001234 ∧ perm16L 0x80000001 = 0x00010000 := by decide
theorem test_busBytes : busBytes 0xDEADBEEF = [0xEF, 0xBE, 0xAD, 0xDE] := by decide

/-! ## One STEP of each K form (95 sections 2.1 and 2.3), for the values 0xDEADBEEF and 0x80000001 -/

theorem test_shlK_deadbeef_low :
    oneStep 0 0xDEADBEEF [(0, 0xDEADBEEF), (1, 0xBD5B7DDE), (2, 0x7AB6FBBC), (3, 0xF56DF778), (4, 0xEADBEEF0),
      (5, 0xD5B7DDE0), (6, 0xAB6FBBC0), (7, 0x56DF7780), (8, 0xADBEEF00)] = true := by decide
theorem test_shlK_deadbeef_high :
    oneStep 0 0xDEADBEEF [(9, 0x5B7DDE00), (10, 0xB6FBBC00), (11, 0x6DF77800), (12, 0xDBEEF000), (13, 0xB7DDE000),
      (14, 0x6FBBC000), (15, 0xDF778000), (16, 0xBEEF0000), (24, 0xEF000000)] = true := by decide
theorem test_shlK_ends_low :
    oneStep 0 0x80000001 [(0, 0x80000001), (1, 0x00000002), (2, 0x00000004), (3, 0x00000008), (4, 0x00000010),
      (5, 0x00000020), (6, 0x00000040), (7, 0x00000080), (8, 0x00000100)] = true := by decide
theorem test_shlK_ends_high :
    oneStep 0 0x80000001 [(9, 0x00000200), (10, 0x00000400), (11, 0x00000800), (12, 0x00001000), (13, 0x00002000),
      (14, 0x00004000), (15, 0x00008000), (16, 0x00010000), (24, 0x01000000)] = true := by decide
theorem test_shrK_deadbeef_low :
    oneStep 1 0xDEADBEEF [(0, 0xDEADBEEF), (1, 0x6F56DF77), (2, 0x37AB6FBB), (3, 0x1BD5B7DD), (4, 0x0DEADBEE),
      (5, 0x06F56DF7), (6, 0x037AB6FB), (7, 0x01BD5B7D), (8, 0x00DEADBE)] = true := by decide
theorem test_shrK_deadbeef_high :
    oneStep 1 0xDEADBEEF [(9, 0x006F56DF), (10, 0x0037AB6F), (11, 0x001BD5B7), (12, 0x000DEADB), (13, 0x0006F56D),
      (14, 0x00037AB6), (15, 0x0001BD5B), (16, 0x0000DEAD), (24, 0x000000DE)] = true := by decide
theorem test_shrK_ends_low :
    oneStep 1 0x80000001 [(0, 0x80000001), (1, 0x40000000), (2, 0x20000000), (3, 0x10000000), (4, 0x08000000),
      (5, 0x04000000), (6, 0x02000000), (7, 0x01000000), (8, 0x00800000)] = true := by decide
theorem test_shrK_ends_high :
    oneStep 1 0x80000001 [(9, 0x00400000), (10, 0x00200000), (11, 0x00100000), (12, 0x00080000), (13, 0x00040000),
      (14, 0x00020000), (15, 0x00010000), (16, 0x00008000), (24, 0x00000080)] = true := by decide

/-- 95 section 2.7: the decomposition commands and the run-time forms, one STEP. -/
theorem test_decomposition_step :
    stepResult (running Config.thisInstance 1 0 40 0xDEADBEEF) = some (0xBEEF0000, 24, ctlRun) ∧
    stepResult (running Config.thisInstance 1 1 33 0xFFFFFFFF) = some (0x0000FFFF, 17, ctlRun) ∧
    stepResult (running Config.thisInstance 0 0 16 0x00008235) = some (0x82350000, 0, ctlRun) ∧
    stepResult (running Config.thisInstance 0 0 0 0x82350000) = some (0x82350000, 0, ctlResp) ∧
    stepResult (running Config.thisInstance 0 1 21 0xDEADBEEF) = some (0x0000DEAD, 5, ctlRun) ∧
    stepResult (running Config.thisInstance 0 1 5 0x0000DEAD) = some (0x000006F5, 0, ctlResp) ∧
    stepResult (running Config.thisInstance 0 0 24 0xDEADBEEF) = some (0xBEEF0000, 8, ctlRun) := by decide

/-- 95 section 2.6: with `OPT` = 0 one fallback STEP. -/
theorem test_opt_zero :
    stepResult (running configF 1 0 21 0xDEADBEEF) = some (0xDDE00000, 0, ctlResp) ∧
    stepResult (running configF 0 1 21 0xDEADBEEF) = some (0x000006F5, 0, ctlResp) ∧
    stepResult (running configF 1 0 255 0xFFFFFFFF) = some (0, 0, ctlResp) ∧
    stepResult (running configF 1 1 31 0xFFFFFFFF) = some (1, 0, ctlResp) ∧
    stepResult (running configF 1 0 1 0x80000000) = some (0, 0, ctlResp) := by decide

/-! ## Error codes and elaboration (95 sections 2.8 and 2.9) -/

theorem test_decodeErr_A :
    decodeErr Config.thisInstance 0x00FF = 0 ∧ decodeErr Config.thisInstance 0x0300 = 0 ∧
    decodeErr Config.thisInstance 0x0201 = 1 ∧ decodeErr Config.thisInstance 0x0400 = 1 := by decide
theorem test_decodeErr_B : decodeErr configB 0x0200 = 2 ∧ decodeErr configB 0x0201 = 1 ∧ decodeErr configB 0x0018 = 0 := by decide
theorem test_decodeErr_C :
    decodeErr configC 0x0001 = 3 ∧ decodeErr configC 0x0011 = 3 ∧ decodeErr configC 0x0021 = 3 ∧ decodeErr configC 0x0014 = 0 ∧
    decodeErr configC 0x0101 = 0 ∧ decodeErr configC 0x0411 = 1 := by decide
theorem test_decodeErr_E :
    decodeErr configE 0x0018 = 3 ∧ decodeErr configE 0x0101 = 3 ∧ decodeErr configE 0x01FF = 0 ∧ decodeErr configE 0x0601 = 1 := by
  decide
theorem test_decodeErr_F : decodeErr configF 0x0001 = 0 ∧ decodeErr configF 0x0200 = 0 ∧ decodeErr configF 0xFFFF = 1 := by decide
theorem test_elaborates :
    elaborates Config.thisInstance = true ∧ elaborates { configC with rta := 1 } = false ∧ elaborates configC = true ∧
    elaborates { Config.thisInstance with fallbackL := [1, 2, 3, 8, 16] } = false ∧
    elaborates { Config.thisInstance with fallbackL := [1, 2, 3, 8, 256] } = false ∧ elaborates configF = true ∧
    elaborates { Config.thisInstance with opt := 2 } = false := by decide

/-! ## ACCEPT, TAKE, RESET and the host's way in (95 section 3) -/

/-- P1 event 2: ACCEPT of `0x0005`. -/
theorem test_accept_legal :
    (nextOf (step (offered Config.thisInstance 0x0005 0x00008235 0))).map
      (fun t => (t.ctl, t.w, t.r, t.dirl, t.kf, t.errl)) = some (ctlRun, 0x00008235, 5, 0, 1, 0) := by decide
/-- P3 event 2: ACCEPT of `0x0205`. -/
theorem test_accept_illegal :
    (nextOf (step (offered Config.thisInstance 0x0205 0x12345678 9))).map
      (fun t => (t.ctl, t.w, t.r, t.dirl, t.kf, t.errl)) = some (ctlResp, 0, 0, 0, 0, 1) := by decide
/-- P5 event 2: `SHL.R` with `RTA` = 0. -/
theorem test_accept_noRuntime :
    (nextOf (step (offered configB 0x0200 1 4))).map
      (fun t => (t.ctl, t.w, t.r, t.dirl, t.kf, t.errl)) = some (ctlResp, 0, 0, 0, 0, 2) := by decide
/-- P6 event 4: `SHL.K #17` has no transform. -/
theorem test_accept_noTransform :
    (nextOf (step (offered configC 0x0011 1 0))).map
      (fun t => (t.ctl, t.w, t.r, t.dirl, t.kf, t.errl)) = some (ctlResp, 0, 0, 0, 1, 3) := by decide
/-- P1 event 4: TAKE. -/
theorem test_take :
    (nextOf (step (answering 0x001046A0 0 true))).map (fun t => (t.ctl, t.taken)) =
      some (ctlIdle, [{ value := 0x001046A0, err := 0 }]) := by decide
/-- 95 section 2.10: RESET together with `rsp_ready`: TAKE does not happen. -/
theorem test_reset_outranks_take :
    (nextOf (step { answering 7 0 true with ports := { Ports.quiet with rspReady := true, rst := true } })).map
      (fun t => (t.ctl, t.taken, t.params)) = some (ctlIdle, [], Config.thisInstance) := by decide
/-- The host's script drives the ports for the next step. -/
theorem test_host_moves :
    (nextOf (step { State.reset with hostMoves := [{ Ports.quiet with reqValid := true }] })).map
      (fun t => (t.ctl, t.ports.reqValid, t.hostMoves)) = some (ctlIdle, true, []) := by decide
theorem test_withFetchWord :
    (nextOf (step (State.reset.withFetchWord 16 0x0115))).map (fun t => (t.ctl, t.r, t.dirl, t.kf)) =
      some (ctlRun, 0x15, 1, 1) := by decide
theorem test_instanceName : Config.thisInstance.instanceName = "FS32_OPT_RTA" := by decide

/-! ## The assembler (30_encoding.md R81, R82) -/

theorem test_assemble_immediate :
    assemble Config.thisInstance
        [['S', 'H', 'L', '.', 'K', ' ', '#', '5', ',', ' ', '0', 'x', '8', '2', '3', '5', ' ', ';', 'w'], [';'],
          ['s', 'h', 'i', 'f', 't', '6', ' ', '1']] = .refusal { line := 3, why := .unknownLine } ∧
    assemble Config.thisInstance
        [['S', 'H', 'L', '.', 'K', ' ', '#', '5', ',', ' ', '0', 'x', '8', '2', '3', '5', ' ', ';', 'w']] =
      .output [{ cmd := 0x0005, value := 0x00008235, dist := 0 }] := by decide
theorem test_assemble_runTime :
    assemble Config.thisInstance [['S', 'H', 'R', '.', 'R', ' ', '9', ',', '2', '1']] =
      .output [{ cmd := 0x0300, value := 9, dist := 21 }] ∧
    assemble configB [['S', 'H', 'R', '.', 'R', ' ', '9', ',', '2', '1']] = .refusal { line := 1, why := .noRunTime } := by decide
theorem test_assemble_pseudo :
    assemble Config.thisInstance [['C', 'L', 'R', ' ', '7'], ['r', 's', 'h', 'i', 'f', 't', '(', '6', ',', ' ', '2', ')']] =
      .output [{ cmd := 0x0020, value := 7, dist := 0 }, { cmd := 0x0102, value := 6, dist := 0 }] := by decide
theorem test_assemble_refuses_distance :
    assembleLine Config.thisInstance (.shlK 256 0) = .refusal .distanceRange ∧
    assembleLine configC (.shlK 17 0) = .refusal .noTransform ∧
    assembleLine Config.thisInstance (.mov (2 ^ 32)) = .refusal .valueRange := by decide
/-- R81: an R form's `dist` outside 0..255, another mnemonic, and an R form with `RTA` = 0 refuse the program by line. -/
theorem test_assemble_refuses_lines :
    assemble Config.thisInstance [['M', 'O', 'V', ' ', '7'], ['S', 'H', 'L', '.', 'R', ' ', '1', ',', '3', '0', '0']] =
      .refusal { line := 2, why := .distanceRange } ∧
    assemble Config.thisInstance [['R', 'O', 'L', '.', 'K', ' ', '#', '5', ',', '1']] = .refusal { line := 1, why := .unknownLine } ∧
    assemble configB [[], ['S', 'H', 'R', '.', 'R', ' ', '1', ',', '5'], ['M', 'O', 'V', ' ', '7']] =
      .refusal { line := 2, why := .noRunTime } := by decide

/-! ## Runs -/

/-- One step of `Host.Core.run`. -/
theorem core_run_succ (M : Host.Core) (k : Nat) (s : M.State) :
    M.run (k + 1) s = (match M.step s with
      | .next t => M.run k t
      | .fault f => .fault f
      | .refused r => .refused r) := rfl

/-- `runSteps` takes the steps that `Host.Core.run` takes. -/
theorem runSteps_eq_core_run (k : Nat) (s : State) : runSteps k s = Host.Core.run Sys2Proof.core k s := by
  induction k generalizing s with
  | zero => rfl
  | succ k ih =>
    refine Eq.trans ?_ (core_run_succ Sys2Proof.core k s).symm
    rw [runSteps, show Sys2Proof.core.step s = step s from rfl]
    cases step s with
    | next t => exact ih t
    | fault f => rfl
    | refused r => rfl

/-! ## Witnesses: a state and operands that meet the hypotheses of each statement -/

theorem offered_good (cmd : Cmd) (v : Word32) (d : Dist) : Good (offered Config.thisInstance cmd v d) :=
  ⟨by change elaborates Config.thisInstance = true; decide, rfl,
    ⟨by simp [offered, State.resetOf], by simp [offered, State.resetOf], by simp [offered, State.resetOf],
      by simp [offered, State.resetOf], by simp [offered, State.resetOf]⟩⟩

theorem offered_offers (cmd : Cmd) (v : Word32) (d : Dist) : Offers (offered Config.thisInstance cmd v d) :=
  ⟨offered_good cmd v d, ⟨rfl, by simp [offered, State.resetOf]⟩, rfl, rfl⟩

theorem offered_plain_offers (cmd : Cmd) (v : Word32) (d : Dist) : Offers (offered configF cmd v d) :=
  ⟨⟨by change elaborates configF = true; decide, rfl,
    ⟨by simp [offered, State.resetOf], by simp [offered, State.resetOf], by simp [offered, State.resetOf],
      by simp [offered, State.resetOf], by simp [offered, State.resetOf]⟩⟩, ⟨rfl, by simp [offered, State.resetOf]⟩, rfl, rfl⟩

/-- A good state in `RUN`: `SHL.K #255`, whose chain is the longest. -/
theorem running_good : Good (running Config.thisInstance 1 0 255 0xDEADBEEF) :=
  ⟨by decide, rfl,
    ⟨by decide, fun _ => rfl, fun h => absurd h (by decide), fun _ => ⟨fun _ => by decide, fun h => absurd h (by decide)⟩,
      fun h => absurd h (by decide)⟩⟩

theorem witness_DecodeInvertsEncode : Instr.wf .shlK0 = true ∧ Instr.wf (.shlKDec 17) = true ∧ Instr.wf (.shrKDec 255) = true := by
  decide
theorem witness_EncodeInvertsDecode : decode 0x0019 = .command (.shlKDec 25) ∧ decode 0x0300 = .command .shrR := by decide
theorem witness_SelectionComputesTheContract :
    ∀ dir ∈ [Dir.left, Dir.right], ∀ d ∈ [0, 1, 15, 16, 24],
      sel Config.thisInstance dir d ≠ .decomp ∧ sel Config.thisInstance dir d ≠ .none := by decide
theorem witness_DecompositionLaw : (16 : Nat) ≤ 16 ∧ (16 : Nat) ≤ 255 := by decide
theorem witness_ContractCornerCases : (32 : Nat) ≤ 32 ∧ (32 : Nat) ≤ 255 := by decide
theorem witness_DefaultSelectorTable :
    Config.thisInstance.opt = 1 ∧ Config.thisInstance.fallbackL = [1, 2, 3, 8, 24] ∧
    Config.thisInstance.fallbackR = [1, 2, 3, 8, 24] ∧ 0 < 256 ∧ 24 ∈ [1, 2, 3, 8, 24] ∧ 15 = SpecDist.d15.toNat ∧
    (16 < 17 ∧ 17 ≠ 24) ∧ (16 < 255 ∧ 255 ≠ 24 ∧ 255 < 256) ∧ configF.opt = 0 := by decide
theorem witness_KFormAcceptLatches :
    (IsKForm .left 4 .shlK4 ∧ resolve Config.thisInstance .left 4 = true) ∧
    (IsKForm .right 255 (.shrKDec 255) ∧ resolve Config.thisInstance .right 255 = true) ∧
    (offered Config.thisInstance 4 7 0).ctl = ctlIdle := by
  refine ⟨⟨.inl (by decide), by decide⟩, ⟨.inr ⟨by decide, .inr ⟨rfl, rfl⟩⟩, by decide⟩, rfl⟩
theorem witness_KFormWithoutTransformIsAnswered :
    (IsKForm .left 1 .shlK1 ∧ resolve configC .left 1 = false) ∧
    (IsKForm .left 17 (.shlKDec 17) ∧ resolve configC .left 17 = false) ∧ (offered configC 1 7 0).ctl = ctlIdle := by
  refine ⟨⟨.inl (by decide), by decide⟩, ⟨.inr ⟨by decide, .inl ⟨rfl, rfl⟩⟩, by decide⟩, rfl⟩
theorem witness_RunTimeAccept :
    (offered Config.thisInstance 0x200 7 255).ctl = ctlIdle ∧ (offered Config.thisInstance 0x200 7 255).params.rta ≠ 0 ∧
    (offered configB 0x200 7 255).ctl = ctlIdle ∧ (offered configB 0x200 7 255).params.rta = 0 := by decide
theorem witness_IdentityKeepsTheValue : (running Config.thisInstance 1 0 4 0xDEADBEEF).ctl = ctlRun := by decide
theorem witness_LeftNibbleFamily : (running Config.thisInstance 1 0 4 0xDEADBEEF).ctl = ctlRun := by decide
theorem witness_RightNibbleFamily : (running Config.thisInstance 1 0 4 0xDEADBEEF).ctl = ctlRun := by decide
theorem witness_LeftRotateFamily : (running Config.thisInstance 1 0 4 0xDEADBEEF).ctl = ctlRun := by decide
theorem witness_RightRotateFamily : (running Config.thisInstance 1 0 4 0xDEADBEEF).ctl = ctlRun := by decide
theorem witness_LeftByteFamily : (running Config.thisInstance 1 0 4 0xDEADBEEF).ctl = ctlRun := by decide
theorem witness_RightByteFamily : (running Config.thisInstance 1 0 4 0xDEADBEEF).ctl = ctlRun := by decide
theorem witness_PermuteCommandsMoveSixteen : (running Config.thisInstance 1 0 4 0xDEADBEEF).ctl = ctlRun := by decide
theorem witness_LeftFallbackFamily :
    (running Config.thisInstance 1 0 1 9).ctl = ctlRun ∧ (running configF 1 0 1 9).params.opt = 0 ∧
    (∀ d ∈ [1, 2, 3, 8, 24], d ∈ (running Config.thisInstance 1 0 1 9).params.fallbackL) ∧
    ((running configE 1 0 24 9).ctl = ctlRun ∧ (running configE 1 0 24 9).params.opt = 1 ∧
      24 ∉ (running configE 1 0 24 9).params.fallbackL) := by decide
theorem witness_LeftDecompositionStep :
    (isDecDist 17 = true ∧ isDecDist 255 = true) ∧ (running Config.thisInstance 1 0 17 9).ctl = ctlRun ∧
    ((running Config.thisInstance 1 0 17 9).params.opt = 1 ∧ 17 ∉ (running Config.thisInstance 1 0 17 9).params.fallbackL ∧
      255 ∉ (running Config.thisInstance 1 0 17 9).params.fallbackL) ∧
    (running configF 1 0 17 9).params.opt = 0 ∧
    30 ∈ (running { Config.thisInstance with fallbackL := [1, 2, 3, 30] } 1 0 30 9).params.fallbackL := by decide
theorem witness_RightFallbackFamily :
    (running Config.thisInstance 1 0 1 9).ctl = ctlRun ∧ (running configF 1 0 1 9).params.opt = 0 ∧
    (∀ d ∈ [1, 2, 3, 8, 24], d ∈ (running Config.thisInstance 1 0 1 9).params.fallbackR) ∧
    ((running configE 1 0 24 9).ctl = ctlRun ∧ (running configE 1 0 24 9).params.opt = 1 ∧
      24 ∉ (running configE 1 0 24 9).params.fallbackR) := by decide
theorem witness_RightDecompositionStep :
    (isDecDist 17 = true ∧ isDecDist 255 = true) ∧ (running Config.thisInstance 1 0 17 9).ctl = ctlRun ∧
    ((running Config.thisInstance 1 0 17 9).params.opt = 1 ∧ 17 ∉ (running Config.thisInstance 1 0 17 9).params.fallbackR ∧
      255 ∉ (running Config.thisInstance 1 0 17 9).params.fallbackR) ∧
    (running configF 1 0 17 9).params.opt = 0 ∧
    30 ∈ (running { Config.thisInstance with fallbackR := [1, 2, 3, 30] } 1 0 30 9).params.fallbackR := by decide
theorem witness_RunTimeStep :
    (running Config.thisInstance 0 0 16 9).ctl = ctlRun ∧
    ((running Config.thisInstance 0 0 16 9).params.opt = 1 ∧ 16 ≤ (running Config.thisInstance 0 0 16 9).r.toNat) ∧
    ((running Config.thisInstance 0 0 15 9).r.toNat < 16 ∧ sel (running Config.thisInstance 0 0 15 9).params .left 15 ≠ .none ∧
      sel (running Config.thisInstance 0 0 15 9).params .right 0 ≠ .none) ∧ (running configF 0 0 255 9).params.opt = 0 := by decide
theorem witness_SelectionWithoutTransformFaults :
    (IsKForm .left 1 .shlK1 ∧ (running configE 1 0 1 9).ctl = ctlRun ∧ sel (running configE 1 0 1 9).params .left 1 = .none) ∧
    ((running configE 0 0 1 9).ctl = ctlRun ∧ (running configE 0 0 1 9).r.toNat < 16 ∧ sel configE .left 1 = .none) ∧
    ({ State.reset with ctl := 3 } : State).ctl = 3 := by
  refine ⟨⟨.inl (by decide), by decide, by decide⟩, by decide, rfl⟩
theorem witness_ResponseIsHeldOrTaken :
    (answering 5 0 true).ctl = ctlResp ∧ (answering 5 0 true).ports.rspReady = true ∧
    (answering 5 0 false).ports.rspReady = false := by decide
theorem witness_CommandsTouchOnlyTheController :
    (∃ t, exec .shlK4 (running Config.thisInstance 1 0 4 9) = .next t) ∧ ∃ t, exec .shrR (answering 5 0 true) = .next t :=
  ⟨⟨_, rfl⟩, ⟨_, rfl⟩⟩
theorem witness_RefusedElaboration : elaborates { Config.thisInstance with opt := 2 } = false := by decide
theorem witness_StepRunsTheOfferedCommand :
    elaborates (offered Config.thisInstance 5 9 0).params = true ∧ (offered Config.thisInstance 5 9 0).everReset = true ∧
    (offered Config.thisInstance 5 9 0).ports.rst = false ∧ (offered Config.thisInstance 5 9 0).ctl = ctlIdle ∧
    (offered Config.thisInstance 5 9 0).ports.reqValid = true ∧
    decode (offered Config.thisInstance 5 9 0).ports.reqCmd = .command .shlK5 := by decide
theorem witness_StepRunsTheCommandInFlight :
    (∀ kf ∈ [(0 : BitVec 1), 1], ∀ dirl ∈ [(0 : BitVec 1), 1],
      elaborates (running Config.thisInstance kf dirl 5 9).params = true ∧ (running Config.thisInstance kf dirl 5 9).everReset = true ∧
      (running Config.thisInstance kf dirl 5 9).ports.rst = false ∧ (running Config.thisInstance kf dirl 5 9).ctl = ctlRun ∧
      (running Config.thisInstance kf dirl 5 9).kf = kf ∧ (running Config.thisInstance kf dirl 5 9).dirl = dirl) := by decide
theorem witness_IllegalWordGetsItsErrorResponse :
    elaborates (offered Config.thisInstance 0x0201 9 0).params = true ∧
    (offered Config.thisInstance 0x0201 9 0).everReset = true ∧ (offered Config.thisInstance 0x0201 9 0).ports.rst = false ∧
    (offered Config.thisInstance 0x0201 9 0).ctl = ctlIdle ∧ (offered Config.thisInstance 0x0201 9 0).ports.reqValid = true ∧
    decode (offered Config.thisInstance 0x0201 9 0).ports.reqCmd = .illegal .runTimeDistance ∧
    decode (offered Config.thisInstance 0xFC00 9 0).ports.reqCmd = .illegal .reservedBits := by decide
theorem witness_ResetOutranksEveryEvent :
    elaborates ({ State.reset with ports := { Ports.quiet with rst := true } } : State).params = true ∧
    ({ State.reset with ports := { Ports.quiet with rst := true } } : State).ctl ≠ 3 ∧
    ({ State.reset with ports := { Ports.quiet with rst := true } } : State).ports.rst = true := by decide
theorem witness_WhereAStepStops :
    elaborates ({ State.reset with everReset := false } : State).params = true ∧
    step { State.reset with everReset := false } = .fault .beforeFirstReset ∧
    step { State.reset with ctl := 3 } = .fault .illegalPhase ∧
    step (State.resetOf { Config.thisInstance with opt := 2 }) = .refused .elaboration :=
  ⟨by decide, rfl, rfl, rfl⟩
theorem witness_IdleAndUntakenResponsesWait :
    (elaborates State.reset.params = true ∧ State.reset.everReset = true ∧ State.reset.ports.rst = false ∧
      State.reset.ctl = ctlIdle ∧ State.reset.ports.reqValid = false) ∧
    ((answering 5 0 false).everReset = true ∧ (answering 5 0 false).ports.rst = false ∧ (answering 5 0 false).ctl = ctlResp ∧
      (answering 5 0 false).ports.rspReady = false) := by decide
theorem witness_TakeGivesTheResponse :
    elaborates (answering 0 3 true).params = true ∧ (answering 0 3 true).everReset = true ∧
    (answering 0 3 true).ports.rst = false ∧ (answering 0 3 true).ctl = ctlResp ∧ (answering 0 3 true).ports.rspReady = true := by
  decide
theorem witness_ResponsesComeOnlyFromTake : (∃ t, step (answering 5 0 true) = .next t) ∧ ∃ t, step State.reset = .next t :=
  ⟨⟨_, rfl⟩, ⟨_, rfl⟩⟩
theorem witness_ParametersNeverChange : ∃ t, step (offered Config.thisInstance 5 9 0) = .next t := ⟨_, rfl⟩
theorem witness_ResetStateIsGood : elaborates Config.thisInstance = true ∧ elaborates configF = true := by decide
theorem witness_EveryStepKeepsGood :
    Good (running Config.thisInstance 1 0 255 0xDEADBEEF) ∧ ∃ t, step (running Config.thisInstance 1 0 255 0xDEADBEEF) = .next t :=
  ⟨running_good, ⟨_, rfl⟩⟩
theorem witness_GoodStatesNeverStop : Good (running Config.thisInstance 1 0 255 0xDEADBEEF) := running_good
theorem witness_DecompositionInvariantHolds :
    (Good (offered Config.thisInstance 0x00FF 9 0) ∧ (offered Config.thisInstance 0x00FF 9 0).ports.rst = false ∧
      (offered Config.thisInstance 0x00FF 9 0).ctl = ctlIdle ∧ (offered Config.thisInstance 0x00FF 9 0).ports.reqValid = true ∧
      decodeErr Config.thisInstance 0x00FF = errOk ∧ ∃ t, step (offered Config.thisInstance 0x00FF 9 0) = .next t) ∧
    (Good (running Config.thisInstance 1 0 255 0xDEADBEEF) ∧
      DecompositionInv 0xDEADBEEF 255 (running Config.thisInstance 1 0 255 0xDEADBEEF)) :=
  ⟨⟨offered_good _ _ _, rfl, rfl, rfl, by decide, ⟨_, rfl⟩⟩, running_good, by unfold DecompositionInv; decide⟩
theorem witness_RequestGetsItsExactResponse :
    Offers (offered Config.thisInstance 0x00FF 9 0) ∧ Offers (offered Config.thisInstance 0xFFFF 9 0) ∧
    stepsForRequest Config.thisInstance 0x00FF 0 = 16 ∧ stepsForRequest Config.thisInstance 0xFFFF 0 = 0 :=
  ⟨offered_offers _ _ _, offered_offers _ _ _, by decide, by decide⟩
theorem witness_AcceptedRequestsRespondWithinSixteenSteps :
    Good (running Config.thisInstance 1 0 255 0xDEADBEEF) ∧ NoReset (running Config.thisInstance 1 0 255 0xDEADBEEF) ∧
    (running Config.thisInstance 1 0 255 0xDEADBEEF).ctl = ctlRun :=
  ⟨running_good, ⟨rfl, by simp [running, State.resetOf]⟩, rfl⟩
theorem witness_StepCounts :
    (255 : Nat) ≤ 255 ∧ configF.opt = 0 ∧ Config.thisInstance.opt = 1 ∧
    Config.thisInstance.fallbackL = [1, 2, 3, 8, 24] ∧ Config.thisInstance.fallbackR = [1, 2, 3, 8, 24] ∧ sel Config.thisInstance .left (40 - 16 * 1) ≠ .decomp ∧
    (∀ j < 1, sel Config.thisInstance .left (40 - 16 * j) = .decomp) := by decide
theorem witness_ImmediateAndRunTimeFormsAgree :
    Offers (offered Config.thisInstance 0x0118 9 0) ∧ Offers (offered Config.thisInstance 0x0300 9 24) ∧
    Config.thisInstance.rta ≠ 0 ∧ resolve Config.thisInstance .right 24 = true ∧
    (0x0118 : Cmd) = cmdWord 0 0 (bitOfDir .right) 24 ∧ (0x0300 : Cmd) = cmdWord 0 1 (bitOfDir .right) 0 :=
  ⟨offered_offers _ _ _, offered_offers _ _ _, by decide, by decide, by decide, by decide⟩
theorem witness_OptimizedAndPlainInstancesAgree :
    Offers (offered configF 0x0015 9 0) ∧ Offers (offered Config.thisInstance 0x0015 9 0) ∧ configF.opt = 0 ∧
    Config.thisInstance.opt = 1 ∧ configF.rta = Config.thisInstance.rta ∧
    (∀ (dir : Dir) (d : Nat), d ≤ 255 → resolve Config.thisInstance dir d = true) := by
  refine ⟨offered_plain_offers _ _ _, offered_offers _ _ _, by decide, by decide, by decide, fun dir d h => ?_⟩
  have all : ∀ dir ∈ [Dir.left, Dir.right], ∀ d < 256, resolve Config.thisInstance dir d = true := by decide +kernel
  exact all dir (by cases dir <;> simp) d (by omega)
theorem witness_FullShiftOut :
    Offers (offered Config.thisInstance 0x0020 9 0) ∧ decodeErr Config.thisInstance 0x0020 = errOk ∧
    32 ≤ (requestDist 0x0020 0).toNat ∧ 32 ≤ (requestDist 0x0200 255).toNat :=
  ⟨offered_offers _ _ _, by decide, by decide, by decide⟩
theorem witness_AcceptReadsNoUnspecifiedRegister :
    Good (offered Config.thisInstance 5 9 0) ∧ (offered Config.thisInstance 5 9 0).ports.rst = false ∧
    (offered Config.thisInstance 5 9 0).ctl = ctlIdle ∧ (offered Config.thisInstance 5 9 0).ports.reqValid = true :=
  ⟨offered_good _ _ _, rfl, rfl, rfl⟩
theorem witness_PortsDoNotReachTheRequestInFlight :
    Good (running Config.thisInstance 1 0 255 0xDEADBEEF) ∧ (running Config.thisInstance 1 0 255 0xDEADBEEF).ctl = ctlRun ∧
    (running Config.thisInstance 1 0 255 0xDEADBEEF).ports.rst = false ∧ Ports.quiet.rst = false :=
  ⟨running_good, rfl, rfl, rfl⟩
theorem witness_AssemblerNeverEmitsAnErrorCommand :
    (assemble Config.thisInstance [['M', 'O', 'V', ' ', '7']] = .output [{ cmd := 0, value := 7, dist := 0 }] ∧
      ({ cmd := 0, value := 7, dist := 0 } : Request) ∈ [({ cmd := 0, value := 7, dist := 0 } : Request)]) ∧
    (AsmLine.shlR 1 256 ∈ kLines .left 1 256 ++ kLines .right 1 256 ++ rLines 1 256 ∧ 255 < 256) ∧
    ((AsmLine.shlK 1 7 ∈ kLines .left 7 1 ∧ resolve configC .left 1 = false) ∧
      (AsmLine.lshiftConst 7 248 ∈ kLines .left 7 248 ∧ resolve configE .left 248 = false) ∧
      (AsmLine.shrK 24 9 ∈ kLines .right 9 24 ∧ resolve configE .right 24 = false)) ∧
    (AsmLine.lshiftRun 1 255 ∈ rLines 1 255 ∧ configB.rta = 0) ∧
    (literal ['2', '5', '5'] = some 255 ∧ literal ['0', 'x', '1', '0', '0'] = some 256) ∧
    ['R', 'O', 'L', '.', 'K'] ∉ assemblyMnemonics ∧
    (∃ out, assemble Config.thisInstance [[';'], ['M', 'O', 'V', ' ', '7']] = .output out) ∧
    LineRefused Config.thisInstance ['S', 'H', 'L', '.', 'R', ' ', '1', ',', '2', '5', '6'] .distanceRange := by
  refine ⟨?_, ?_, ?_, ?_, ?_, ?_, ⟨_, rfl⟩, ⟨_, _, rfl, .inr ⟨_, rfl, by decide⟩⟩⟩ <;> decide
theorem witness_PseudoInstructionsExpand :
    (0 : Nat) < 2 ^ 32 ∧ 2 ^ 32 - 1 < 2 ^ 32 ∧ (255 : Nat) ≤ 255 ∧ resolve Config.thisInstance .left 255 = true ∧
    resolve Config.thisInstance .right 0 = true ∧ Config.thisInstance.rta ≠ 0 := by
  decide

end Sys2Proof.Machine
end

section
/-! PROOFS. The number a byte list stands for (00_scope.md R13), and the contract shifts on it (R22). -/

namespace Sys2Proof.Machine

/-- A concatenation as a number: the upper part counts `2 ^ n` for a lower part of `n` bits. -/
theorem toNat_append_eq_add {m n : Nat} (x : BitVec m) (y : BitVec n) : (x ++ y).toNat = x.toNat * 2 ^ n + y.toNat := by
  rw [BitVec.toNat_append, ← Nat.shiftLeft_add_eq_or_of_lt y.isLt, Nat.shiftLeft_eq]

@[simp] theorem bytesValue_nil : bytesValue [] = 0 := rfl

theorem bytesValue_concat (xs : List Byte) (x : Byte) : bytesValue (xs ++ [x]) = bytesValue xs * 256 + x.toNat :=
  List.foldl_concat ..

theorem bytesValue_cons (x : Byte) (xs : List Byte) :
    bytesValue (x :: xs) = x.toNat * 256 ^ xs.length + bytesValue xs := by
  induction xs using List.reverseRecOn with
  | nil => simp [bytesValue]
  | append_singleton xs y ih =>
    rw [← List.cons_append, bytesValue_concat, bytesValue_concat, ih, List.length_append, List.length_singleton, pow_succ]
    ring

theorem bytesValue_lt (xs : List Byte) : bytesValue xs < 256 ^ xs.length := by
  induction xs using List.reverseRecOn with
  | nil => simp
  | append_singleton xs x ih =>
    rw [bytesValue_concat, List.length_append, List.length_singleton, pow_succ]
    omega

/-- The left shift of a word reduces modulo 2^32, so the bytes above the word's four do not matter. -/
theorem shl32_wordOf (xs : List Byte) (d : Nat) : shl32 (wordOf xs) d = BitVec.ofNat 32 (bytesValue xs * 2 ^ d) := by
  apply BitVec.eq_of_toNat_eq
  simp [shl32, wordOf]

/-- The right shift sees every byte, so the list must fit the word. -/
theorem shr32_wordOf (xs : List Byte) (d : Nat) (h : xs.length ≤ 4) :
    shr32 (wordOf xs) d = BitVec.ofNat 32 (bytesValue xs / 2 ^ d) := by
  have fits : bytesValue xs < 2 ^ 32 :=
    (bytesValue_lt xs).trans_le (Nat.pow_le_pow_right (by decide : 0 < 256) h)
  rw [shr32, wordOf, BitVec.toNat_ofNat, Nat.mod_eq_of_lt fits]

end Sys2Proof.Machine
end

section
/-! PROOFS. The carry chains (00_scope.md R16 to R18): what one carry step does to a byte's number, then the chain over
a list of any length. -/

namespace Sys2Proof.Machine

/-- `ROL8` doubles the byte and adds the carry in; the carry out is what does not fit. -/
theorem rol8_value (x : Byte) (c : BitVec 1) :
    (rol8 x c).2.toNat * 256 + (rol8 x c).1.toNat = x.toNat * 2 + c.toNat := by
  have byte := x.isLt
  simp only [rol8, toNat_append_eq_add, BitVec.extractLsb'_toNat, Nat.shiftRight_eq_div_pow]
  omega

/-- `ROR8` halves the byte with the carry in above it; the carry out is the remainder. -/
theorem ror8_value (x : Byte) (c : BitVec 1) :
    (ror8 x c).1.toNat * 2 + (ror8 x c).2.toNat = c.toNat * 256 + x.toNat := by
  have byte := x.isLt
  simp only [ror8, toNat_append_eq_add, BitVec.extractLsb'_toNat, Nat.shiftRight_eq_div_pow]
  omega

theorem shl1ChainLow_eq_rolChain (xs : List Byte) : shl1ChainLow xs = rolChain 0 xs := by cases xs <;> rfl

theorem shr1Chain_eq_rorChain (xs : List Byte) : shr1Chain xs = rorChain 0 xs := by cases xs <;> rfl

@[simp] theorem length_rolChain (c : BitVec 1) (xs : List Byte) : (rolChain c xs).length = xs.length := by
  induction xs generalizing c with
  | nil => rfl
  | cons x xs ih => simp [rolChain, ih]

@[simp] theorem length_rorChain (c : BitVec 1) (xs : List Byte) : (rorChain c xs).length = xs.length := by
  induction xs generalizing c with
  | nil => rfl
  | cons x xs ih => simp [rorChain, ih]

@[simp] theorem length_shl1Chain (xs : List Byte) : (shl1Chain xs).length = xs.length := by
  simp [shl1Chain, shl1ChainLow_eq_rolChain]

@[simp] theorem length_shr1Chain (xs : List Byte) : (shr1Chain xs).length = xs.length := by
  simp [shr1Chain_eq_rorChain]

/-- The `ROL8` steps double the number and add the carry in. The chain lists the least significant byte first, so the
numbers are those of the reversed lists. -/
theorem bytesValue_rolChain (c : BitVec 1) (xs : List Byte) :
    bytesValue (rolChain c xs).reverse = (bytesValue xs.reverse * 2 + c.toNat) % 256 ^ xs.length := by
  induction xs generalizing c with
  | nil => simp [rolChain, Nat.mod_one]
  | cons x xs ih =>
    have step := rol8_value x c
    have split : (bytesValue xs.reverse * 256 + x.toNat) * 2 + c.toNat =
        (rol8 x c).1.toNat + 256 * (bytesValue xs.reverse * 2 + (rol8 x c).2.toNat) := by omega
    have byte : (rol8 x c).1.toNat < 256 := (rol8 x c).1.isLt
    rw [rolChain, List.reverse_cons, List.reverse_cons, bytesValue_concat, bytesValue_concat, ih, split,
      List.length_cons, pow_succ', Nat.mod_mul, Nat.add_mul_mod_self_left, Nat.add_mul_div_left _ _ (by decide : 0 < 256),
      Nat.mod_eq_of_lt byte, Nat.div_eq_of_lt byte, zero_add, add_comm, mul_comm]

/-- The `ROR8` steps halve the number with the carry in above its top byte. -/
theorem bytesValue_rorChain (c : BitVec 1) (xs : List Byte) :
    bytesValue (rorChain c xs) = (c.toNat * 256 ^ xs.length + bytesValue xs) / 2 := by
  induction xs generalizing c with
  | nil =>
    have bit := c.isLt
    simp [rorChain]
    omega
  | cons x xs ih =>
    have split : c.toNat * 256 ^ (xs.length + 1) + (x.toNat * 256 ^ xs.length + bytesValue xs) =
        2 * ((ror8 x c).1.toNat * 256 ^ xs.length) + ((ror8 x c).2.toNat * 256 ^ xs.length + bytesValue xs) := by
      linear_combination 256 ^ xs.length * (ror8_value x c).symm
    rw [rorChain, bytesValue_cons, bytesValue_cons, length_rorChain, ih, List.length_cons, split,
      Nat.mul_add_div (by decide : 0 < 2)]

theorem bytesValue_shl1Chain (xs : List Byte) :
    bytesValue (shl1Chain xs) = bytesValue xs * 2 % 256 ^ xs.length := by
  simp [shl1Chain, shl1ChainLow_eq_rolChain, bytesValue_rolChain]

theorem bytesValue_shr1Chain (xs : List Byte) : bytesValue (shr1Chain xs) = bytesValue xs / 2 := by
  simp [shr1Chain_eq_rorChain, bytesValue_rorChain]

/-- Settles O7: the chain is the `ROL8` steps with carry 0 in, and those double the number, by induction on the bytes. -/
theorem leftChainDoublesModulo : Obligations.LeftChainDoublesModulo := fun xs =>
  ⟨length_shl1Chain xs, by rw [bytesValue_shl1Chain, pow_mul]; norm_num⟩

/-- Settles O8: the chain is the `ROR8` steps with carry 0 in, and those halve the number, by induction on the bytes. -/
theorem rightChainHalves : Obligations.RightChainHalves := fun xs =>
  ⟨length_shr1Chain xs, bytesValue_shr1Chain xs⟩

end Sys2Proof.Machine
end

section
/-! PROOFS. The nibble-swap-mask-xor reconstruction (00_scope.md R15, R19, R20). A swapped byte is its low nibble above
its high one, so each mask keeps one nibble and an output byte joins two nibbles. -/

namespace Sys2Proof.Machine

/-- The xor form of an output byte of `NIB4L` takes the upper nibble of `s` and the lower nibble of `t` (R19). -/
theorem nibbleUp_eq_or (s t : Byte) : nibbleUp s t = (s &&& 0xF0) ||| (t &&& 0x0F) := by
  refine BitVec.eq_of_getLsbD_eq fun i hi => ?_
  interval_cases i <;> simp [nibbleUp]

/-- The xor form of an output byte of `NIB4R` takes the lower nibble of `s` and the upper nibble of `t` (R20). -/
theorem nibbleDown_eq_or (s t : Byte) : nibbleDown s t = (s &&& 0x0F) ||| (t &&& 0xF0) := by
  refine BitVec.eq_of_getLsbD_eq fun i hi => ?_
  interval_cases i <;> simp [nibbleDown]

theorem swap8_and_upper (x : Byte) : swap8 x &&& 0xF0 = x.extractLsb' 0 4 ++ 0#4 := by
  rw [swap8, show (0xF0 : Byte) = BitVec.allOnes 4 ++ 0#4 from rfl, BitVec.and_append, BitVec.and_allOnes, BitVec.and_zero]

theorem swap8_and_lower (x : Byte) : swap8 x &&& 0x0F = 0#4 ++ x.extractLsb' 4 4 := by
  rw [swap8, show (0x0F : Byte) = 0#4 ++ BitVec.allOnes 4 from rfl, BitVec.and_append, BitVec.and_allOnes, BitVec.and_zero]

/-- Two nibbles joined are the low nibble of `x` above the high nibble of `y`. -/
theorem nibbles_or (x y : Byte) :
    (swap8 x &&& 0xF0) ||| (swap8 y &&& 0x0F) = x.extractLsb' 0 4 ++ y.extractLsb' 4 4 := by
  rw [swap8_and_upper, swap8_and_lower, BitVec.or_append, BitVec.or_zero, BitVec.zero_or]

theorem toNat_swap8_and_upper (x : Byte) : (swap8 x &&& 0xF0).toNat = x.toNat % 16 * 16 := by
  rw [swap8_and_upper, toNat_append_eq_add, BitVec.extractLsb'_toNat]
  rfl

theorem toNat_swap8_and_lower (x : Byte) : (swap8 x &&& 0x0F).toNat = x.toNat / 16 := by
  have byte := x.isLt
  simp only [swap8_and_lower, toNat_append_eq_add, BitVec.extractLsb'_toNat, Nat.shiftRight_eq_div_pow, BitVec.toNat_ofNat]
  omega

theorem toNat_nibbleUp_swap8 (x y : Byte) :
    (nibbleUp (swap8 x) (swap8 y)).toNat = x.toNat % 16 * 16 + y.toNat / 16 := by
  have byte := y.isLt
  simp only [nibbleUp_eq_or, nibbles_or, toNat_append_eq_add, BitVec.extractLsb'_toNat, Nat.shiftRight_eq_div_pow]
  omega

theorem toNat_nibbleDown_swap8 (x y : Byte) :
    (nibbleDown (swap8 x) (swap8 y)).toNat = y.toNat % 16 * 16 + x.toNat / 16 := by
  rw [nibbleDown_eq_or, BitVec.or_comm, ← nibbleUp_eq_or, toNat_nibbleUp_swap8]

/-- `NIB4L` multiplies the number of its four bytes by 16 and drops the top nibble. -/
theorem bytesValue_nib4L (x3 x2 x1 x0 : Byte) :
    bytesValue (nib4L x3 x2 x1 x0) = bytesValue [x3, x2, x1, x0] * 16 % 2 ^ 32 := by
  have b3 := x3.isLt
  have b2 := x2.isLt
  have b1 := x1.isLt
  have b0 := x0.isLt
  simp only [nib4L, bytesValue, List.foldl_cons, List.foldl_nil, toNat_nibbleUp_swap8, toNat_swap8_and_upper]
  omega

/-- `NIB4R` divides the number of its four bytes by 16. -/
theorem bytesValue_nib4R (x3 x2 x1 x0 : Byte) :
    bytesValue (nib4R x3 x2 x1 x0) = bytesValue [x3, x2, x1, x0] / 16 := by
  simp only [nib4R, bytesValue, List.foldl_cons, List.foldl_nil, toNat_nibbleDown_swap8, toNat_swap8_and_lower]
  omega

/-- Settles O9: the xor form is the join of masked nibbles, and the joined bytes are 16 times the number modulo 2^32. -/
theorem nibbleReconstructionShiftsLeftFour : Obligations.NibbleReconstructionShiftsLeftFour := by
  intro x3 x2 x1 x0
  constructor
  · simp only [nib4L, nibbleUp_eq_or]
  · rw [shl32_wordOf, wordOf, bytesValue_nib4L]
    exact BitVec.eq_of_toNat_eq (by simp)

/-- Settles O10: the xor form is the join of masked nibbles, and the joined bytes are a sixteenth of the number. -/
theorem nibbleReconstructionShiftsRightFour : Obligations.NibbleReconstructionShiftsRightFour := by
  intro x3 x2 x1 x0
  constructor
  · simp only [nib4R, nibbleDown_eq_or]
  · rw [shr32_wordOf _ _ le_rfl, wordOf, bytesValue_nib4R]
    rfl

end Sys2Proof.Machine
end

section
/-! PROOFS. What one event does to the state: the inversions of STEP and of a command's event, and what `RESOLVE` says
along a decomposition (30_encoding.md R76; 44_decomposition_dispatch.md R203 to R206). -/

namespace Sys2Proof.Machine

/-! ## The selection -/

/-- Only a distance above 16 is given to the decomposition rule (R75). -/
theorem sixteen_lt_of_sel_decomp {p : Params} {dir : Dir} {d : Nat} (h : sel p dir d = .decomp) : 16 < d := by
  unfold sel at h
  split_ifs at h with _ _ _ _ above
  · exact above
  · split at h <;> cases h

/-- A decomposition distance resolves as the distance that its permute leaves (R76). -/
theorem resolve_of_sel_decomp {p : Params} {dir : Dir} {d : Nat} (h : sel p dir d = .decomp) :
    resolve p dir d = resolve p dir (d - 16) := by
  have above := sixteen_lt_of_sel_decomp h
  have fuel : d / 16 = (d - 16) / 16 + 1 := by omega
  calc resolve p dir d = resolveWithin p dir (d / 16) (d - 16) := by simp [resolve, resolveWithin, h]
    _ = resolve p dir (d - 16) := by rw [resolve, fuel]

/-- A K form of an OK word resolves, and an R form of one has the run-time dispatcher (60_exceptions.md R231). -/
theorem transform_of_decodeErr_ok {p : Params} {cmd : Cmd} (h : decodeErr p cmd = errOk) :
    (srcField cmd = 0 → resolve p (dirOfBit (dirField cmd)) (distField cmd).toNat = true) ∧
      (srcField cmd = 1 → p.rta ≠ 0) := by
  unfold decodeErr at h
  split_ifs at h with _ _ noRuntime noTransform
  iterate 4 exact absurd h (by decide)
  exact ⟨fun k => by simpa [k] using noTransform, fun r => by simpa [r] using noRuntime⟩

/-! ## STEP and the event of a command -/

/-- A STEP that answers a next state permutes, or responds with what the selection answers (R204). -/
theorem stepEvent_next {kf : BitVec 1} {dir : Dir} {r : Dist} {s t : State} (h : stepEvent kf dir r s = .next t) :
    (s.params.opt = 1 ∧ decomposes s.params kf dir r.toNat = true ∧ t = s.permuted dir r) ∨
      ∃ v, apply s.params dir r.toNat s.w = .ok v ∧ t = s.responding v := by
  rcases stepEvent_cases kf dir r s with ⟨opt, dec, e⟩ | ⟨-, ⟨v, hv, e⟩ | ⟨-, e⟩ | ⟨-, e⟩⟩
  · exact .inl ⟨opt, dec, Host.Outcome.next.inj (h.symm.trans e)⟩
  · exact .inr ⟨v, hv, Host.Outcome.next.inj (h.symm.trans e)⟩
  · cases h.symm.trans e
  · cases h.symm.trans e

/-- What the event of a command can leave: one constructor for each way that ACCEPT, STEP and TAKE answer a next state
(R203 to R206; 70_reset_and_hazards.md R269). -/
inductive RequestEvent (s : State) : State → Prop
  | accepted (cmd : Cmd) (idle : s.ctl = ctlIdle) : RequestEvent s (accept cmd s.ports.reqValue s.ports.reqDist s)
  | permuted (dir : Dir) (r : Dist) (run : s.ctl = ctlRun) : RequestEvent s (s.permuted dir r)
  | responding (v : Word32) (run : s.ctl = ctlRun) : RequestEvent s (s.responding v)
  | taken (resp : s.ctl = ctlResp) (ready : s.ports.rspReady = true) : RequestEvent s s.handOver
  | held (resp : s.ctl = ctlResp) (notReady : s.ports.rspReady = false) : RequestEvent s s

/-- The common shape of `kRequest` and `rRequest`: a word for `IDLE`, and a form, a direction and a distance for `RUN`. -/
def requestWith (cmd : Cmd) (kf : BitVec 1) (dir : Dir) (r : Dist) (s : State) : Host.Outcome State Fault Refusal :=
  if s.ctl = ctlIdle then .next (accept cmd s.ports.reqValue s.ports.reqDist s)
  else if s.ctl = ctlRun then stepEvent kf dir r s
  else if s.ctl = ctlResp then .next (takeOrHold s)
  else .fault .illegalPhase

theorem kRequest_eq_requestWith (dir : Dir) (d : Dist) (s : State) :
    kRequest dir d s = requestWith (cmdWord 0 0 (bitOfDir dir) d) 1 dir d s := rfl

theorem rRequest_eq_requestWith (dir : Dir) (s : State) :
    rRequest dir s = requestWith (cmdWord 0 1 (bitOfDir dir) 0) 0 dir s.r s := rfl

/-- Every command is the life of one request. -/
theorem exec_eq_requestWith (i : Instr) (s : State) : ∃ cmd kf dir r, exec i s = requestWith cmd kf dir r s := by
  cases i with
  | shlR => exact ⟨_, _, _, _, rRequest_eq_requestWith .left s⟩
  | shrR => exact ⟨_, _, _, _, rRequest_eq_requestWith .right s⟩
  | _ => exact ⟨_, _, _, _, kRequest_eq_requestWith _ _ s⟩

theorem requestWith_next {cmd : Cmd} {kf : BitVec 1} {dir : Dir} {r : Dist} {s t : State}
    (h : requestWith cmd kf dir r s = .next t) : RequestEvent s t := by
  unfold requestWith at h
  split_ifs at h with idle run resp
  · injection h with h
    exact h ▸ .accepted cmd idle
  · obtain ⟨-, -, rfl⟩ | ⟨v, -, rfl⟩ := stepEvent_next h
    · exact .permuted dir r run
    · exact .responding v run
  · injection h with h
    subst h
    obtain ⟨ready, e⟩ | ⟨notReady, e⟩ := takeOrHold_cases s <;> rw [e]
    · exact .taken resp ready
    · exact .held resp notReady

theorem exec_next {i : Instr} {s t : State} (h : exec i s = .next t) : RequestEvent s t := by
  obtain ⟨cmd, kf, dir, r, e⟩ := exec_eq_requestWith i s
  exact requestWith_next (e ▸ h)

/-- Settles O37: each way that a command's event can end keeps those fields, and only TAKE adds to the record. -/
theorem commandsTouchOnlyTheController : Obligations.CommandsTouchOnlyTheController := by
  intro i s t h
  cases exec_next h with
  | accepted => simp
  | permuted => simp
  | responding => simp
  | taken resp ready => simp [resp, ready]
  | held => simp

/-! ## The parameters -/

@[simp] theorem takeOrHold_params (s : State) : (takeOrHold s).params = s.params := by
  obtain ⟨-, e⟩ | ⟨-, e⟩ := takeOrHold_cases s
  · rw [e, State.handOver_params]
  · rw [e]

theorem stepEvent_params {kf : BitVec 1} {dir : Dir} {r : Dist} {s t : State} (h : stepEvent kf dir r s = .next t) :
    t.params = s.params := by
  obtain ⟨-, -, rfl⟩ | ⟨v, -, rfl⟩ := stepEvent_next h <;> rfl

theorem blockEvent_params {s t : State} (h : blockEvent s = .next t) : t.params = s.params := by
  obtain ⟨-, rfl⟩ | ⟨-, -, ⟨-, -, rfl⟩ | ⟨-, -, rfl⟩ | ⟨-, e⟩ | ⟨-, rfl⟩⟩ := blockEvent_cases s t h
  · rfl
  · exact accept_params _ _ _ s
  · rfl
  · exact stepEvent_params e
  · exact takeOrHold_params s

theorem step_params {s t : State} (h : step s = .next t) : t.params = s.params := by
  obtain ⟨-, u, event, rfl⟩ := (step_next_iff s t).mp h
  rw [State.hostDrives_params, blockEvent_params event]

/-- Settles O46: no event and no host move writes the parameters, and `SEL` reads nothing else of the state. -/
theorem parametersNeverChange : Obligations.ParametersNeverChange := fun _ _ h =>
  ⟨step_params h, fun _ _ => by rw [step_params h]⟩

end Sys2Proof.Machine
end

section
/-! PROOFS. Every event keeps the controller invariant (10_state.md R44; 30_encoding.md R76;
44_decomposition_dispatch.md R203 to R206). -/

namespace Sys2Proof.Machine

/-- In `IDLE` the invariant asks for nothing. -/
theorem controllerInv_of_idle {s : State} (idle : s.ctl = ctlIdle) : ControllerInv s := by
  constructor <;> simp [idle]

theorem formBit_eq_one_iff (cmd : Cmd) : formBit cmd = 1 ↔ srcField cmd = 0 := by
  unfold formBit; rcases bit_cases (srcField cmd) with h | h <;> simp [h]

theorem formBit_eq_zero_iff (cmd : Cmd) : formBit cmd = 0 ↔ srcField cmd = 1 := by
  unfold formBit; rcases bit_cases (srcField cmd) with h | h <;> simp [h]

/-- ACCEPT latches only a request with a transform, and an error response has value 0 and no distance left (R203, R231,
R232). -/
theorem accept_controllerInv (cmd : Cmd) (v : Word32) (d : Dist) (s : State) : ControllerInv (accept cmd v d s) := by
  obtain ⟨ok, e⟩ | ⟨-, e⟩ := accept_cases cmd v d s <;> rw [e]
  · obtain ⟨kTransform, rTransform⟩ := transform_of_decodeErr_ok ok
    have transform : inFlightHasTransform (s.latch cmd v d) := by
      refine ⟨fun kf => ?_, fun kf => rTransform ((formBit_eq_zero_iff cmd).mp kf)⟩
      have src : srcField cmd = 0 := (formBit_eq_one_iff cmd).mp kf
      simpa [requestDist, src] using kTransform src
    constructor <;> simp [transform]
  · constructor <;> simp

/-- A permute STEP leaves a request that still has a transform: a K form is taken only at a decomposition distance, and an
R form needs only the dispatcher (R204). -/
theorem permuted_hasTransform {s : State} (h : inFlightHasTransform s)
    (dec : decomposes s.params s.kf (dirOfBit s.dirl) s.r.toNat = true) :
    inFlightHasTransform (s.permuted (dirOfBit s.dirl) s.r) := by
  refine ⟨fun (kf : s.kf = 1) => ?_, h.2⟩
  have selected : sel s.params (dirOfBit s.dirl) s.r.toNat = .decomp := by simpa [decomposes, kf] using dec
  have above := sixteen_lt_of_sel_decomp selected
  have left : (s.r - 16).toNat = s.r.toNat - 16 := by
    rw [BitVec.toNat_sub_of_le (by simpa [BitVec.le_def] using above.le)]
    rfl
  rw [State.permuted_params, State.permuted_dirl, State.permuted_r, left, ← resolve_of_sel_decomp selected]
  exact h.1 kf

/-- STEP keeps the invariant: a permute stays in `RUN`, and a response carries no error and no distance (R204). -/
theorem stepEvent_controllerInv {s t : State} (inv : ControllerInv s) (run : s.ctl = ctlRun)
    (h : stepEvent s.kf (dirOfBit s.dirl) s.r s = .next t) : ControllerInv t := by
  have noError := inv.runHasNoError run
  obtain ⟨-, dec, rfl⟩ | ⟨v, -, rfl⟩ := stepEvent_next h
  · have transform := permuted_hasTransform (inv.runHasTransform run) dec
    constructor <;> simp [run, noError, transform]
  · constructor <;> simp [noError]

theorem takeOrHold_controllerInv {s : State} (inv : ControllerInv s) : ControllerInv (takeOrHold s) := by
  obtain ⟨-, e⟩ | ⟨-, e⟩ := takeOrHold_cases s
  · rw [e]; exact controllerInv_of_idle rfl
  · rw [e]; exact inv

theorem blockEvent_controllerInv {s t : State} (inv : ControllerInv s) (h : blockEvent s = .next t) :
    ControllerInv t := by
  obtain ⟨-, rfl⟩ | ⟨-, -, ⟨-, -, rfl⟩ | ⟨-, -, rfl⟩ | ⟨run, e⟩ | ⟨-, rfl⟩⟩ := blockEvent_cases s t h
  · exact controllerInv_of_idle rfl
  · exact accept_controllerInv _ _ _ s
  · exact inv
  · exact stepEvent_controllerInv inv run e
  · exact takeOrHold_controllerInv inv

/-- No event takes back that the block has been reset. -/
theorem blockEvent_everReset {s t : State} (h : blockEvent s = .next t) : t.everReset = true := by
  obtain ⟨-, rfl⟩ | ⟨-, reset, ⟨-, -, rfl⟩ | ⟨-, -, rfl⟩ | ⟨-, e⟩ | ⟨-, rfl⟩⟩ := blockEvent_cases s t h
  · rfl
  · rw [accept_everReset, reset]
  · exact reset
  · obtain ⟨-, -, rfl⟩ | ⟨v, -, rfl⟩ := stepEvent_next e <;> exact reset
  · obtain ⟨-, e⟩ | ⟨-, e⟩ := takeOrHold_cases s <;> rw [e] <;> exact reset

theorem blockEvent_good {s t : State} (good : Good s) (h : blockEvent s = .next t) : Good t where
  elaborated := by rw [blockEvent_params h, good.elaborated]
  reset := blockEvent_everReset h
  controller := blockEvent_controllerInv good.controller h

/-- The host's move changes nothing that a good state is about. -/
theorem hostDrives_good {s : State} (good : Good s) : Good s.hostDrives := by
  obtain ⟨elaborated, reset, ⟨legalPhase, noError, valueZero, transform, noDistance⟩⟩ := good
  have only_ports_and_moves (ports : Ports) (moves : List Ports) : Good { s with ports := ports, hostMoves := moves } :=
    ⟨elaborated, reset, ⟨legalPhase, noError, valueZero, transform, noDistance⟩⟩
  cases moves : s.hostMoves with
  | nil => rw [State.hostDrives_nil s moves]; exact only_ports_and_moves s.ports s.hostMoves
  | cons p rest => rw [State.hostDrives_cons s p rest moves]; exact only_ports_and_moves p rest

/-- Settles O48: the block's event keeps a good state, and so does the host's move after it. -/
theorem everyStepKeepsGood : Obligations.EveryStepKeepsGood := by
  intro s t good h
  obtain ⟨-, u, event, rfl⟩ := (step_next_iff s t).mp h
  exact hostDrives_good (blockEvent_good good event)

end Sys2Proof.Machine
end

section
/-! PROOFS. ACCEPT writes all of the five registers that a reset leaves unspecified and reads none of them (10_state.md
R45; 44_decomposition_dispatch.md R203). -/

namespace Sys2Proof.Machine

/-- The step of a reset block in `IDLE` with a request offered is the ACCEPT of the levels on the ports, and then the
host's move. -/
theorem step_eq_accept {s : State} (elaborated : elaborates s.params = true) (reset : s.everReset = true)
    (noRst : s.ports.rst = false) (idle : s.ctl = ctlIdle) (valid : s.ports.reqValid = true) :
    step s = .next (accept s.ports.reqCmd s.ports.reqValue s.ports.reqDist s).hostDrives := by
  have event : blockEvent s = idleEvent s := by simp [blockEvent, reset, noRst, idle]
  rw [step_eq s elaborated, event, idleEvent_eq s idle, if_pos valid, thenHost]

/-- The five registers before ACCEPT do not matter: both the legal and the error case write each of them. -/
theorem accept_overwrites_registers (cmd : Cmd) (value : Word32) (dist : Dist) (s : State) (w : Word32) (r : Dist)
    (dirl kf : BitVec 1) (errl : BitVec 2) :
    accept cmd value dist { s with w := w, r := r, dirl := dirl, kf := kf, errl := errl } = accept cmd value dist s := by
  by_cases ok : decodeErr s.params cmd = errOk
  · exact (accept_legal cmd value dist _ ok).trans (accept_legal cmd value dist s ok).symm
  · exact (accept_error cmd value dist _ ok).trans (accept_error cmd value dist s ok).symm

/-- Settles O57: both steps are the ACCEPT of the same levels, which overwrites all that differs. -/
theorem acceptReadsNoUnspecifiedRegister : Obligations.AcceptReadsNoUnspecifiedRegister := by
  intro s w r dirl kf errl good noRst idle valid
  refine ⟨_, step_eq_accept good.elaborated good.reset noRst idle valid, ?_⟩
  rw [← accept_overwrites_registers _ _ _ s w r dirl kf errl]
  exact step_eq_accept good.elaborated good.reset noRst idle valid

end Sys2Proof.Machine
end

section
/-! PROOFS. The host's side of the block (10_state.md R46, R47; 20_memory.md R57, R61): a response leaves only by TAKE, and
in `RUN` the levels on the ports are not read, in a STEP that always has a transform to apply. -/

namespace Sys2Proof.Machine

/-! ## The record of responses -/

theorem stepEvent_taken {kf : BitVec 1} {dir : Dir} {r : Dist} {s t : State} (h : stepEvent kf dir r s = .next t) :
    t.taken = s.taken := by
  obtain ⟨-, -, rfl⟩ | ⟨v, -, rfl⟩ := stepEvent_next h <;> rfl

/-- The block's event adds to the host's record only by TAKE (R206). -/
theorem blockEvent_taken {s t : State} (h : blockEvent s = .next t) :
    t.taken = s.taken ∨
      (s.ctl = ctlResp ∧ s.ports.rspReady = true ∧ s.ports.rst = false ∧ t = s.handOver) := by
  obtain ⟨-, rfl⟩ | ⟨noRst, -, ⟨-, -, rfl⟩ | ⟨-, -, rfl⟩ | ⟨-, e⟩ | ⟨resp, rfl⟩⟩ := blockEvent_cases s t h
  · exact .inl (State.resetEvent_taken s)
  · exact .inl (accept_taken _ _ _ s)
  · exact .inl rfl
  · exact .inl (stepEvent_taken e)
  · obtain ⟨ready, e⟩ | ⟨-, e⟩ := takeOrHold_cases s <;> rw [e]
    · exact .inr ⟨resp, ready, noRst, rfl⟩
    · exact .inl rfl

/-- Settles O45: of the block's events only TAKE writes the record, and the host's move after it writes neither the record
nor the phase. -/
theorem responsesComeOnlyFromTake : Obligations.ResponsesComeOnlyFromTake := by
  intro s t h
  obtain ⟨-, u, event, rfl⟩ := (step_next_iff s t).mp h
  rw [State.hostDrives_taken, State.hostDrives_ctl]
  obtain same | ⟨resp, ready, noRst, rfl⟩ := blockEvent_taken event
  · exact .inl same
  · exact .inr ⟨resp, ready, noRst, State.handOver_ctl s, State.handOver_taken s⟩

/-! ## A request with a transform can always STEP -/

/-- What the elaboration check asks of the switches (70_reset_and_hazards.md R266 (a), (c)). -/
theorem switches_of_elaborates {p : Params} (h : elaborates p = true) :
    p.opt ≤ 1 ∧ p.rta ≤ 1 ∧ (p.opt = 1 → p.rta = 1 → runTimeCovered p = true) := by
  simp only [elaborates, Bool.and_eq_true, Bool.or_eq_true, Bool.not_eq_true', Bool.and_eq_false_iff, beq_eq_false_iff_ne,
    decide_eq_true_eq] at h
  obtain ⟨⟨⟨⟨opt, rta⟩, -⟩, -⟩, covered⟩ := h
  exact ⟨opt, rta, fun o r => by simpa [o, r] using covered⟩

theorem sel_of_opt_zero {p : Params} (dir : Dir) (d : Nat) (h : p.opt = 0) : sel p dir d = .fallback := by
  rw [sel, if_pos h]

/-- Without the optimizations `SEL` gives the fallback, so any other answer tells `OPT` = 1 (30_encoding.md R75). -/
theorem opt_eq_one_of_sel {p : Params} {dir : Dir} {d : Nat} {f : Family} (elaborated : elaborates p = true)
    (selected : sel p dir d = f) (other : f ≠ .fallback) : p.opt = 1 := by
  obtain ⟨atMostOne, -, -⟩ := switches_of_elaborates elaborated
  have nonzero : p.opt ≠ 0 := fun zero => other (selected.symm.trans (sel_of_opt_zero dir d zero))
  omega

theorem sel_zero_ne_none (p : Params) (dir : Dir) : sel p dir 0 ≠ .none := by
  by_cases h : p.opt = 0 <;> simp [sel, h]

/-- The run-time dispatcher has a transform for every distance below 16 (R266 (c)). -/
theorem sel_ne_none_of_runTimeCovered {p : Params} (h : runTimeCovered p = true) (dir : Dir) {d : Nat} (below : d < 16) :
    sel p dir d ≠ .none := by
  rcases Nat.eq_zero_or_pos d with rfl | pos
  · exact sel_zero_ne_none p dir
  · have both : sel p .left d ≠ .none ∧ sel p .right d ≠ .none := by
      simpa [pos.ne'] using List.all_eq_true.mp h d (List.mem_range.mpr below)
    cases dir
    · exact both.1
    · exact both.2

/-- A distance that `RESOLVE` answers OK is not one where `SEL` gives NONE (R76). -/
theorem sel_ne_none_of_resolve {p : Params} {dir : Dir} {d : Nat} (h : resolve p dir d = true) : sel p dir d ≠ .none := by
  intro noArm
  simp [resolve, resolveWithin, noArm] at h

/-- Where `SEL` gives DECOMP either form decomposes: a K form by definition, and an R form because the distance is above
16 (R204). -/
theorem decomposes_of_sel_decomp {p : Params} (kf : BitVec 1) {dir : Dir} {d : Nat} (h : sel p dir d = .decomp) :
    decomposes p kf dir d = true := by
  have above := sixteen_lt_of_sel_decomp h
  by_cases k : kf = 1
  · rw [decomposes, if_pos k, h]; rfl
  · rw [decomposes, if_neg k]; exact decide_eq_true above.le

/-- A request with a transform never meets the NONE arm: a K form resolves, and an R form that is not decomposed has a
distance below 16, which the elaboration check covers (R205, R266). -/
theorem sel_ne_none_of_inFlightHasTransform {s : State} (elaborated : elaborates s.params = true)
    (transform : inFlightHasTransform s)
    (last : ¬(s.params.opt = 1 ∧ decomposes s.params s.kf (dirOfBit s.dirl) s.r.toNat = true)) :
    sel s.params (dirOfBit s.dirl) s.r.toNat ≠ .none := by
  obtain ⟨kForm, rForm⟩ := transform
  rcases bit_cases s.kf with r | k
  · intro noArm
    obtain ⟨-, rta, covered⟩ := switches_of_elaborates elaborated
    have opt : s.params.opt = 1 := opt_eq_one_of_sel elaborated noArm (by simp)
    have dispatcher : s.params.rta = 1 := by have := rForm r; omega
    have below : s.r.toNat < 16 := by simpa [opt, decomposes, r] using last
    exact sel_ne_none_of_runTimeCovered (covered opt dispatcher) _ below noArm
  · exact sel_ne_none_of_resolve (kForm k)

/-- The STEP of a request with a transform answers a next state: neither faulting arm is met (R205). -/
theorem exists_stepEvent_next {s : State} (elaborated : elaborates s.params = true) (transform : inFlightHasTransform s) :
    ∃ t, stepEvent s.kf (dirOfBit s.dirl) s.r s = .next t := by
  obtain ⟨-, -, e⟩ | ⟨last, ⟨v, -, e⟩ | ⟨decomp, -⟩ | ⟨noArm, -⟩⟩ := stepEvent_cases s.kf (dirOfBit s.dirl) s.r s
  · exact ⟨_, e⟩
  · exact ⟨_, e⟩
  · have opt : s.params.opt = 1 := opt_eq_one_of_sel elaborated decomp (by simp)
    exact absurd ⟨opt, decomposes_of_sel_decomp s.kf decomp⟩ last
  · exact absurd noArm (sel_ne_none_of_inFlightHasTransform elaborated transform last)

/-! ## The ports in `RUN` -/

/-- The event of `RUN` with no reset requested is the STEP of the latched request (R204, R267). -/
theorem blockEvent_eq_stepEvent {s : State} (reset : s.everReset = true) (noRst : s.ports.rst = false)
    (run : s.ctl = ctlRun) : blockEvent s = stepEvent s.kf (dirOfBit s.dirl) s.r s := by
  rw [← exec_inFlight_run s run]
  simp [blockEvent, reset, noRst, run]

theorem stepEvent_of_decomposes {kf : BitVec 1} {dir : Dir} {r : Dist} {s : State}
    (h : s.params.opt = 1 ∧ decomposes s.params kf dir r.toNat = true) : stepEvent kf dir r s = .next (s.permuted dir r) := by
  rw [stepEvent, if_pos h]

theorem stepEvent_of_apply {kf : BitVec 1} {dir : Dir} {r : Dist} {s : State} {v : Word32}
    (last : ¬(s.params.opt = 1 ∧ decomposes s.params kf dir r.toNat = true))
    (applied : apply s.params dir r.toNat s.w = .ok v) : stepEvent kf dir r s = .next (s.responding v) := by
  rw [stepEvent, if_neg last, applied]

/-- STEP reads no port and writes none. -/
theorem stepEvent_withPorts {kf : BitVec 1} {dir : Dir} {r : Dist} {s t : State} (p : Ports)
    (h : stepEvent kf dir r s = .next t) :
    stepEvent kf dir r { s with ports := p } = .next { t with ports := p } := by
  obtain ⟨opt, dec, e⟩ | ⟨last, ⟨v, applied, e⟩ | ⟨-, e⟩ | ⟨-, e⟩⟩ := stepEvent_cases kf dir r s
  · cases h.symm.trans e
    exact stepEvent_of_decomposes (s := { s with ports := p }) ⟨opt, dec⟩
  · cases h.symm.trans e
    exact stepEvent_of_apply (s := { s with ports := p }) last applied
  · cases h.symm.trans e
  · cases h.symm.trans e

/-- Settles O58: in `RUN` the event is the STEP of the latched request, which has a transform and reads no port. -/
theorem portsDoNotReachTheRequestInFlight : Obligations.PortsDoNotReachTheRequestInFlight := by
  intro s p good run noRst noRst'
  obtain ⟨t, event⟩ := exists_stepEvent_next good.elaborated (good.controller.runHasTransform run)
  refine ⟨t, (blockEvent_eq_stepEvent good.reset noRst run).trans event, ?_⟩
  have stepOfLatched := blockEvent_eq_stepEvent (s := { s with ports := p }) good.reset noRst' run
  exact stepOfLatched.trans (stepEvent_withPorts p event)

end Sys2Proof.Machine
end

section
/-! PROOFS. The decoder and the encoder are inverse (30_encoding.md R65, R72, R73, R79): the decoder reads the fields of a
word, and a well-formed command is a K form of a direction and a distance or an R form of a direction. -/

namespace Sys2Proof.Machine

/-! ## The decoder on a word's fields -/

theorem decode_kWord (dir : Dir) (d : Dist) : decode (cmdWord 0 0 (bitOfDir dir) d) = .command (kInstr dir d) := by
  simp [decode]

theorem decode_rWord (dir : Dir) : decode (cmdWord 0 1 (bitOfDir dir) 0) = .command (rInstr dir) := by
  simp [decode]

/-- A word names a K form or an R form, or it is refused for a reserved bit or for an R form's distance (R72, R74). -/
theorem decode_cases (w : Cmd) :
    (∃ dir d, w = cmdWord 0 0 (bitOfDir dir) d ∧ decode w = .command (kInstr dir d)) ∨
      (∃ dir, w = cmdWord 0 1 (bitOfDir dir) 0 ∧ decode w = .command (rInstr dir)) ∨
        (rsvField w ≠ 0 ∨ srcField w = 1 ∧ distField w ≠ 0) ∧ ∃ why, decode w = .illegal why := by
  by_cases reserved : rsvField w = 0
  · rcases bit_cases (srcField w) with k | r
    · have word : w = cmdWord 0 0 (bitOfDir (dirOfBit (dirField w))) (distField w) := by
        simpa [reserved, k] using (cmdWord_fields w).symm
      exact .inl ⟨_, _, word, by simp [decode, reserved, k]⟩
    · by_cases zero : distField w = 0
      · have word : w = cmdWord 0 1 (bitOfDir (dirOfBit (dirField w))) 0 := by
          simpa [reserved, r, zero] using (cmdWord_fields w).symm
        exact .inr (.inl ⟨_, word, by simp [decode, reserved, r, zero]⟩)
      · exact .inr (.inr ⟨.inr ⟨r, zero⟩, .runTimeDistance,
          by rw [decode, if_neg (not_not.mpr reserved), if_pos r, if_pos zero]⟩)
  · exact .inr (.inr ⟨.inl reserved, .reservedBits, by rw [decode, if_pos reserved]⟩)

/-! ## The K forms -/

/-- At a decomposition distance the K form is the direction's decomposition command (R73, last row). -/
theorem kInstr_of_isDecDist {d : Dist} (h : isDecDist d = true) :
    kInstr .left d = .shlKDec d ∧ kInstr .right d = .shrKDec d := by
  simp only [isDecDist, Bool.and_eq_true, decide_eq_true_eq, bne_iff_ne] at h
  constructor <;> (unfold kInstr; dsimp only; split)
  case h_19 | h_19 => rfl
  all_goals omega

/-- The distances with a rule of their own (R73). -/
def fixedDistances : List Dist := [0, 1, 2, 3, 4, 5, 6, 7, 8, 9, 10, 11, 12, 13, 14, 15, 16, 24]

/-- The distances that are not left to decomposition have a rule of their own. -/
theorem fixed_of_not_isDecDist {d : Dist} (h : isDecDist d = false) : d ∈ fixedDistances := by
  simp only [isDecDist, Bool.and_eq_false_iff, decide_eq_false_iff_not, bne_eq_false_iff_eq] at h
  simp only [fixedDistances, List.mem_cons, List.not_mem_nil, BitVec.toNat_eq, BitVec.toNat_ofNat, BitVec.ofNat_eq_ofNat]
  omega

/-- `kInstr` gives the K form that the table names. -/
theorem isKForm_kInstr (dir : Dir) (d : Dist) : IsKForm dir d (kInstr dir d) := by
  cases dec : isDecDist d
  · have fixed : ∀ dir : Dir, ∀ d ∈ fixedDistances, (dir, d, kInstr dir d) ∈ fixedKForms := by
      rintro (_ | _) <;> decide
    exact .inl (fixed dir d (fixed_of_not_isDecDist dec))
  · obtain ⟨left, right⟩ := kInstr_of_isDecDist dec
    cases dir
    · exact .inr ⟨dec, .inl ⟨rfl, left⟩⟩
    · exact .inr ⟨dec, .inr ⟨rfl, right⟩⟩

theorem encode_of_isKForm {dir : Dir} {d : Dist} {i : Instr} (h : IsKForm dir d i) :
    encode i = cmdWord 0 0 (bitOfDir dir) d := by
  have fixed : ∀ f ∈ fixedKForms, encode f.2.2 = cmdWord 0 0 (bitOfDir f.1) f.2.1 := by decide
  obtain mem | ⟨-, ⟨rfl, rfl⟩ | ⟨rfl, rfl⟩⟩ := h
  · exact fixed _ mem
  · rfl
  · rfl

theorem wf_of_isKForm {dir : Dir} {d : Dist} {i : Instr} (h : IsKForm dir d i) : i.wf = true := by
  have fixed : ∀ f ∈ fixedKForms, f.2.2.wf = true := by decide
  obtain mem | ⟨dec, ⟨-, rfl⟩ | ⟨-, rfl⟩⟩ := h
  · exact fixed _ mem
  · exact dec
  · exact dec

/-- The K form of a direction and a distance is the one the decoder names. -/
theorem isKForm_iff (dir : Dir) (d : Dist) (i : Instr) : IsKForm dir d i ↔ i = kInstr dir d := by
  have fixed : ∀ f ∈ fixedKForms, f.2.2 = kInstr f.1 f.2.1 := by decide
  refine ⟨?_, fun h => h ▸ isKForm_kInstr dir d⟩
  rintro (mem | ⟨dec, ⟨rfl, rfl⟩ | ⟨rfl, rfl⟩⟩)
  · exact fixed _ mem
  · exact (kInstr_of_isDecDist dec).1.symm
  · exact (kInstr_of_isDecDist dec).2.symm

theorem encode_rInstr (dir : Dir) : encode (rInstr dir) = cmdWord 0 1 (bitOfDir dir) 0 := by cases dir <;> rfl

theorem rInstr_wf (dir : Dir) : (rInstr dir).wf = true := by cases dir <;> rfl

/-- A well-formed command is an R form, or the K form of the fields of its own word (R72, R73). -/
theorem kForm_or_rForm_of_wf {i : Instr} (h : i.wf = true) :
    IsKForm (dirOfBit (dirField (encode i))) (distField (encode i)) i ∨ ∃ dir, i = rInstr dir := by
  cases i with
  | shlKDec d => exact .inl (.inr (by simpa [encode, dirOfBit, Instr.wf] using h))
  | shrKDec d => exact .inl (.inr (by simpa [encode, dirOfBit, Instr.wf] using h))
  | shlR => exact .inr ⟨.left, rfl⟩
  | shrR => exact .inr ⟨.right, rfl⟩
  | _ => exact .inl (.inl (by decide))

/-- Settles O2: a well-formed command is a K form or an R form, and the decoder reads the fields of its word back. -/
theorem decodeInvertsEncode : Obligations.DecodeInvertsEncode := by
  intro i wf
  obtain form | ⟨dir, rfl⟩ := kForm_or_rForm_of_wf wf
  · calc decode (encode i) = .command (kInstr (dirOfBit (dirField (encode i))) (distField (encode i))) := by
          conv_lhs => rw [encode_of_isKForm form, decode_kWord]
      _ = .command i := by rw [← (isKForm_iff _ _ i).mp form]
  · rw [encode_rInstr, decode_rWord]

/-- Settles O3: by the three things a word can be to the decoder. -/
theorem encodeInvertsDecode : Obligations.EncodeInvertsDecode := by
  intro w i decoded
  obtain ⟨dir, d, rfl, e⟩ | ⟨dir, rfl, e⟩ | ⟨-, why, e⟩ := decode_cases w
  · cases decoded.symm.trans e
    exact ⟨encode_of_isKForm (isKForm_kInstr dir d), wf_of_isKForm (isKForm_kInstr dir d)⟩
  · cases decoded.symm.trans e
    exact ⟨encode_rInstr dir, rInstr_wf dir⟩
  · cases decoded.symm.trans e

/-- Settles O1: the decoder evaluated on each of the sixteen words. -/
theorem sampleWordsDecode : Obligations.SampleWordsDecode := by
  unfold Obligations.SampleWordsDecode
  decide

end Sys2Proof.Machine
end

section
/-! PROOFS. The selector: an equation for each branch of `SEL`, and the table of the default sets (30_encoding.md R75, R76,
R78). -/

namespace Sys2Proof.Machine

/-! ## The branches of `SEL` -/

@[simp] theorem specOf_toNat (k : SpecDist) : specOf k.toNat = some k := by cases k <;> rfl

theorem specOf_of_sixteen_le {d : Nat} (h : 16 ≤ d) : specOf d = none := by
  unfold specOf
  split
  case h_12 => rfl
  all_goals omega

/-- Below 16 a distance without a specialization is one of 0, 1, 2, 3 and 8 (00_scope.md R11). -/
theorem small_of_specOf_none {d : Nat} (below : d < 16) (h : specOf d = none) : d ∈ [0, 1, 2, 3, 8] := by
  have table : ∀ d < 16, specOf d = none → d ∈ [0, 1, 2, 3, 8] := by decide
  exact table d below h

theorem SpecDist.toNat_lt (k : SpecDist) : k.toNat < 16 := by cases k <;> decide

theorem SpecDist.toNat_ne_zero (k : SpecDist) : k.toNat ≠ 0 := by cases k <;> decide

section
variable {p : Params} (optimized : p.opt ≠ 0) (dir : Dir)
include optimized

theorem sel_zero : sel p dir 0 = .ident := by simp [sel, optimized]

theorem sel_sixteen : sel p dir 16 = .perm16 := by simp [sel, optimized]

theorem sel_of_mem_fallbackSet {d : Nat} (zero : d ≠ 0) (sixteen : d ≠ 16) (mem : d ∈ fallbackSet p dir) :
    sel p dir d = .fallback := by
  simp [sel, optimized, zero, sixteen, mem]

theorem sel_spec {k : SpecDist} (notMem : k.toNat ∉ fallbackSet p dir) : sel p dir k.toNat = .spec k := by
  simp [sel, optimized, k.toNat_ne_zero, k.toNat_lt.ne, notMem]

theorem sel_decomp {d : Nat} (above : 16 < d) (notMem : d ∉ fallbackSet p dir) : sel p dir d = .decomp := by
  have zero : d ≠ 0 := by omega
  simp [sel, optimized, zero, above, above.ne', notMem, specOf_of_sixteen_le above.le]

end

/-- `SEL` answers NONE only at 1, 2, 3 and 8, and there only outside the fallback set (R75). -/
theorem small_of_sel_none {p : Params} {dir : Dir} {d : Nat} (h : sel p dir d = .none) :
    d ∈ [1, 2, 3, 8] ∧ d ∉ fallbackSet p dir := by
  unfold sel at h
  split_ifs at h with _ zero sixteen mem above
  · split at h <;> cases h
  · split at h
    · cases h
    · next noSpec =>
      have small := small_of_specOf_none (by omega) noSpec
      exact ⟨(List.mem_cons.mp small).resolve_left zero, mem⟩

/-! ## `RESOLVE` -/

/-- `RESOLVE` answers OK where `SEL` needs no decomposition and is not NONE (R76). -/
theorem resolve_of_sel {p : Params} {dir : Dir} {d : Nat} (notNone : sel p dir d ≠ .none)
    (notDecomp : sel p dir d ≠ .decomp) : resolve p dir d = true := by
  rw [resolve, resolveWithin]
  cases selected : sel p dir d with
  | none => exact absurd selected notNone
  | decomp => exact absurd selected notDecomp
  | ident | fallback | perm16 | spec k => rfl

/-- Where no distance gives NONE, every decomposition chain ends in a transform. -/
theorem resolve_of_forall_sel_ne_none {p : Params} {dir : Dir} (total : ∀ d, sel p dir d ≠ .none) (d : Nat) :
    resolve p dir d = true := by
  induction d using Nat.strongRecOn with
  | ind d ih =>
    by_cases decomp : sel p dir d = .decomp
    · have above := sixteen_lt_of_sel_decomp decomp
      rw [resolve_of_sel_decomp decomp]
      exact ih (d - 16) (by omega)
    · exact resolve_of_sel (total d) decomp

theorem resolve_of_opt_zero {p : Params} (plain : p.opt = 0) (dir : Dir) (d : Nat) : resolve p dir d = true :=
  have fallback := sel_of_opt_zero dir d plain
  resolve_of_sel (by simp [fallback]) (by simp [fallback])

theorem resolve_zero (p : Params) (dir : Dir) : resolve p dir 0 = true := by
  by_cases plain : p.opt = 0
  · exact resolve_of_opt_zero plain dir 0
  · have ident := sel_zero plain dir
    exact resolve_of_sel (by simp [ident]) (by simp [ident])

theorem resolve_sixteen (p : Params) (dir : Dir) : resolve p dir 16 = true := by
  by_cases plain : p.opt = 0
  · exact resolve_of_opt_zero plain dir 16
  · have permute := sel_sixteen plain dir
    exact resolve_of_sel (by simp [permute]) (by simp [permute])

/-- 32 is a fallback distance or decomposes to 16. -/
theorem resolve_thirtyTwo (p : Params) (dir : Dir) : resolve p dir 32 = true := by
  by_cases decomp : sel p dir 32 = .decomp
  · exact (resolve_of_sel_decomp decomp).trans (resolve_sixteen p dir)
  · refine resolve_of_sel (fun noArm => ?_) decomp
    exact absurd (small_of_sel_none noArm).1 (by decide)

/-! ## The default sets -/

section
variable {p : Params} {dir : Dir} (sets : fallbackSet p dir = [1, 2, 3, 8, 24])
include sets

theorem sel_ne_none_of_default_sets (d : Nat) : sel p dir d ≠ .none := by
  intro noArm
  obtain ⟨small, outside⟩ := small_of_sel_none noArm
  rw [sets] at outside
  exact outside (List.mem_append_left [24] small)

theorem resolve_of_default_sets (d : Nat) : resolve p dir d = true :=
  resolve_of_forall_sel_ne_none (sel_ne_none_of_default_sets sets) d

end

/-- Settles O17: each row is a branch of `SEL`, with membership in the default sets decided. -/
theorem defaultSelectorTable : Obligations.DefaultSelectorTable := by
  refine ⟨fun p dir d opt left right _ => ?_, fun p dir d => sel_of_opt_zero dir d⟩
  have optimized : p.opt ≠ 0 := by omega
  have sets : fallbackSet p dir = [1, 2, 3, 8, 24] := by cases dir <;> assumption
  refine ⟨?ident, ?fallback, ?spec, ?perm16, ?decomp, sel_ne_none_of_default_sets sets d, resolve_of_default_sets sets d⟩
  case ident => rintro rfl; exact sel_zero optimized dir
  case fallback =>
    intro mem
    have others : ∀ d ∈ [1, 2, 3, 8, 24], d ≠ 0 ∧ d ≠ 16 := by decide
    obtain ⟨zero, sixteen⟩ := others d mem
    exact sel_of_mem_fallbackSet optimized dir zero sixteen (sets ▸ mem)
  case spec =>
    rintro k rfl
    refine sel_spec optimized dir ?_
    rw [sets]
    cases k <;> decide
  case perm16 => rintro rfl; exact sel_sixteen optimized dir
  case decomp =>
    intro above other
    refine sel_decomp optimized dir above ?_
    rw [sets]
    simp only [List.mem_cons, List.not_mem_nil, or_false]
    omega

end Sys2Proof.Machine
end

section
/-! PROOFS. The number of a command word: which words name a command, and which of them are legal under the default sets
(30_encoding.md R65, R79). -/

namespace Sys2Proof.Machine

/-- The number of a word, from its four fields (R65). -/
theorem toNat_eq_fields (w : Cmd) : w.toNat =
    1024 * (rsvField w).toNat + 512 * (srcField w).toNat + 256 * (dirField w).toNat + (distField w).toNat := by
  have bound := w.isLt
  simp only [rsvField, srcField, dirField, distField, BitVec.extractLsb'_toNat, Nat.shiftRight_eq_div_pow]
  omega

theorem toNat_cmdWord (a : BitVec 6) (b c : BitVec 1) (d : Dist) :
    (cmdWord a b c d).toNat = 1024 * a.toNat + 512 * b.toNat + 256 * c.toNat + d.toNat := by
  simpa using toNat_eq_fields (cmdWord a b c d)

theorem toNat_kWord_lt (dir : Dir) (d : Dist) : (cmdWord 0 0 (bitOfDir dir) d).toNat < 512 := by
  rw [toNat_cmdWord]
  have := (bitOfDir dir).isLt
  simp; omega

theorem rWord_cases (dir : Dir) :
    cmdWord 0 1 (bitOfDir dir) 0 = 0x0200 ∨ cmdWord 0 1 (bitOfDir dir) 0 = 0x0300 := by
  cases dir
  · exact .inl rfl
  · exact .inr rfl

/-- A word with a reserved bit, or an R form with a distance, is none of the 514 words of R79. -/
theorem not_legalNumber_of_illegal {w : Cmd} (h : rsvField w ≠ 0 ∨ srcField w = 1 ∧ distField w ≠ 0) :
    ¬(w.toNat < 512 ∨ w = 0x0200 ∨ w = 0x0300) := by
  rintro (below | rfl | rfl)
  · rw [toNat_eq_fields] at below
    obtain reserved | ⟨r, -⟩ := h
    · have : (rsvField w).toNat ≠ 0 := fun zero => reserved (BitVec.eq_of_toNat_eq zero)
      omega
    · rw [r] at below
      simp at below; omega
  · exact absurd h (by decide)
  · exact absurd h (by decide)

/-- The words that name a command are 0x0000 to 0x01FF, 0x0200 and 0x0300 (R79). -/
theorem namesCommand_iff (w : Cmd) :
    (∃ i, decode w = .command i) ↔ w.toNat < 512 ∨ w = 0x0200 ∨ w = 0x0300 := by
  obtain ⟨dir, d, rfl, e⟩ | ⟨dir, rfl, e⟩ | ⟨bad, why, e⟩ := decode_cases w
  · exact iff_of_true ⟨_, e⟩ (.inl (toNat_kWord_lt dir d))
  · exact iff_of_true ⟨_, e⟩ (.inr (rWord_cases dir))
  · exact iff_of_false (by simp [e]) (not_legalNumber_of_illegal bad)

theorem decodeErr_of_illegal {p : Params} {w : Cmd} (h : rsvField w ≠ 0 ∨ srcField w = 1 ∧ distField w ≠ 0) :
    decodeErr p w = errIllegal := by
  unfold decodeErr
  by_cases reserved : rsvField w ≠ 0
  · rw [if_pos reserved]
  · rw [if_neg reserved, if_pos (h.resolve_left reserved)]

/-- With the run-time dispatcher, and where every distance resolves, every word that names a command is legal
(60_exceptions.md R231). -/
theorem decodeErr_ok_iff_namesCommand {p : Params} (rta : p.rta ≠ 0)
    (total : ∀ dir d, resolve p dir d = true) (w : Cmd) : decodeErr p w = errOk ↔ ∃ i, decode w = .command i := by
  obtain ⟨dir, d, rfl, e⟩ | ⟨dir, rfl, e⟩ | ⟨bad, why, e⟩ := decode_cases w
  · exact iff_of_true (by rw [decodeErr_k, if_pos (total dir d.toNat)]) ⟨_, e⟩
  · exact iff_of_true (by rw [decodeErr_r, if_neg rta]) ⟨_, e⟩
  · exact iff_of_false (by rw [decodeErr_of_illegal bad]; decide) (by simp [e])

/-- Settles O6: under the default sets every distance resolves, so the legal words are those that name a command. -/
theorem defaultParametersHave514LegalWords : Obligations.DefaultParametersHave514LegalWords := by
  intro w
  have total : ∀ dir d, resolve Config.thisInstance dir d = true := fun dir d =>
    resolve_of_default_sets (by cases dir <;> rfl) d
  exact (decodeErr_ok_iff_namesCommand (by decide) total w).trans (namesCommand_iff w)

end Sys2Proof.Machine
end

section
/-! PROOFS. The rows of the opcode table (30_encoding.md R80): each row matches a block of consecutive words, and the blocks
tile the words that name a command. -/

namespace Sys2Proof.Machine

/-- A row's mask clears some low bits only, and its pattern has zeros there. -/
def isBlockRow (row : OpRow) : Bool :=
  (List.range 8).any fun k => row.mask == BitVec.allOnes 16 <<< k && row.pattern &&& row.mask == row.pattern

/-- How many words a block row matches. -/
def rowSize (row : OpRow) : Nat := 0x10000 - row.mask.toNat

theorem toNat_and_allOnes_shiftLeft (w : Cmd) (k : Nat) :
    (w &&& BitVec.allOnes 16 <<< k).toNat = w.toNat / 2 ^ k * 2 ^ k := by
  have below : w.toNat / 2 ^ k * 2 ^ k < 2 ^ 16 := (Nat.div_mul_le_self _ _).trans_lt w.isLt
  rw [← BitVec.shiftLeft_ushiftRight, BitVec.toNat_shiftLeft, BitVec.toNat_ushiftRight, Nat.shiftRight_eq_div_pow,
    Nat.shiftLeft_eq, Nat.mod_eq_of_lt below]

/-- A block row matches the `rowSize` words from its pattern on (R80). -/
theorem hits_iff_of_isBlockRow {row : OpRow} (block : isBlockRow row = true) (w : Cmd) :
    row.hits w = true ↔ row.pattern.toNat ≤ w.toNat ∧ w.toNat < row.pattern.toNat + rowSize row := by
  simp only [isBlockRow, List.any_eq_true, List.mem_range, Bool.and_eq_true, beq_iff_eq] at block
  obtain ⟨k, small, mask, pattern⟩ := block
  have aligned : row.pattern.toNat / 2 ^ k * 2 ^ k = row.pattern.toNat := by
    rw [← toNat_and_allOnes_shiftLeft, ← mask, pattern]
  have size : rowSize row = 2 ^ k := by
    rw [rowSize, mask]
    interval_cases k <;> decide
  rw [OpRow.hits, beq_iff_eq, BitVec.toNat_eq, mask, toNat_and_allOnes_shiftLeft, size]
  clear size pattern mask
  interval_cases k <;> omega

/-- The rows' blocks follow each other without a gap from `lo` up to `hi`. -/
def tiles : List OpRow → Nat → Nat → Bool
  | [], lo, hi => lo == hi
  | row :: rows, lo, hi => isBlockRow row && row.pattern.toNat == lo && tiles rows (lo + rowSize row) hi

theorem le_of_tiles {rows : List OpRow} {lo hi : Nat} (h : tiles rows lo hi = true) : lo ≤ hi := by
  induction rows generalizing lo with
  | nil => exact (beq_iff_eq.mp h).le
  | cons row rows ih =>
    simp only [tiles, Bool.and_eq_true] at h
    exact (Nat.le_add_right _ _).trans (ih h.2)

/-- Of rows that tile a range, one matches a word in it and none a word outside it. -/
theorem countP_hits_of_tiles {rows : List OpRow} {lo hi : Nat} (h : tiles rows lo hi = true) (w : Cmd) :
    rows.countP (fun row => row.hits w) = if lo ≤ w.toNat ∧ w.toNat < hi then 1 else 0 := by
  induction rows generalizing lo with
  | nil =>
    cases beq_iff_eq.mp h
    rw [List.countP_nil, if_neg (by omega)]
  | cons row rows ih =>
    simp only [tiles, Bool.and_eq_true, beq_iff_eq] at h
    obtain ⟨⟨block, rfl⟩, rest⟩ := h
    have ordered := le_of_tiles rest
    simp only [List.countP_cons, ih rest, hits_iff_of_isBlockRow block]
    split_ifs <;> omega

/-- The names and the base words of the K rows of the two directions (R80). -/
def kRowKinds : List (String × Cmd) := [("SHL.K", 0x0000), ("SHR.K", 0x0100)]

/-- The K rows of a direction match its 256 words once each: the rows of 0..16 and of 24 and two runs of decomposition rows
tile them (R73, R80). -/
theorem countP_hits_kRows {k : String × Cmd} (kind : k ∈ kRowKinds) (w : Cmd) :
    (exactRows k.1 k.2).countP (fun row => row.hits w) + (decRows k.1 k.2).countP (fun row => row.hits w) =
      if k.2.toNat ≤ w.toNat ∧ w.toNat < k.2.toNat + 256 then 1 else 0 := by
  have exactLow : ∀ k ∈ kRowKinds, tiles ((exactRows k.1 k.2).take 17) k.2.toNat (k.2.toNat + 17) = true := by decide
  have exactHigh : ∀ k ∈ kRowKinds, tiles ((exactRows k.1 k.2).drop 17) (k.2.toNat + 24) (k.2.toNat + 25) = true := by
    decide
  have decLow : ∀ k ∈ kRowKinds, tiles ((decRows k.1 k.2).take 3) (k.2.toNat + 17) (k.2.toNat + 24) = true := by decide
  have decHigh : ∀ k ∈ kRowKinds, tiles ((decRows k.1 k.2).drop 3) (k.2.toNat + 25) (k.2.toNat + 256) = true := by decide
  rw [← List.take_append_drop 17 (exactRows k.1 k.2), ← List.take_append_drop 3 (decRows k.1 k.2),
    List.countP_append, List.countP_append, countP_hits_of_tiles (exactLow k kind), countP_hits_of_tiles (exactHigh k kind),
    countP_hits_of_tiles (decLow k kind), countP_hits_of_tiles (decHigh k kind)]
  split_ifs <;> omega

/-- The two R rows match one word each (R72, R80). -/
theorem countP_hits_rRows (w : Cmd) :
    [(⟨"SHL.R", 0x0200, 0xFFFF⟩ : OpRow), ⟨"SHR.R", 0x0300, 0xFFFF⟩].countP (fun row => row.hits w) =
      if w.toNat = 0x0200 ∨ w.toNat = 0x0300 then 1 else 0 := by
  have shlR : tiles [⟨"SHL.R", 0x0200, 0xFFFF⟩] 0x0200 0x0201 = true := by decide
  have shrR : tiles [⟨"SHR.R", 0x0300, 0xFFFF⟩] 0x0300 0x0301 = true := by decide
  rw [← List.singleton_append, List.countP_append, countP_hits_of_tiles shlR, countP_hits_of_tiles shrR]
  split_ifs <;> omega

/-- How many rows match a word: the K rows of both directions and the two R rows, counted by the word's number (R80). -/
theorem countP_hits_opcodeTable (w : Cmd) : opcodeTable.countP (fun row => row.hits w) =
    if w.toNat < 512 ∨ w = 0x0200 ∨ w = 0x0300 then 1 else 0 := by
  have left : (exactRows "SHL.K" 0x0000).countP (fun row => row.hits w) +
      (decRows "SHL.K" 0x0000).countP (fun row => row.hits w) = if w.toNat < 256 then 1 else 0 := by
    simpa using countP_hits_kRows (k := ("SHL.K", 0x0000)) (by decide) w
  have right : (exactRows "SHR.K" 0x0100).countP (fun row => row.hits w) +
      (decRows "SHR.K" 0x0100).countP (fun row => row.hits w) = if 256 ≤ w.toNat ∧ w.toNat < 512 then 1 else 0 :=
    countP_hits_kRows (k := ("SHR.K", 0x0100)) (by decide) w
  have shlR : w = 0x0200 ↔ w.toNat = 0x0200 := BitVec.toNat_eq
  have shrR : w = 0x0300 ↔ w.toNat = 0x0300 := BitVec.toNat_eq
  rw [opcodeTable, List.countP_append, List.countP_append, List.countP_append, List.countP_append, left, countP_hits_rRows,
    add_assoc (ite _ _ _), right]
  simp only [shlR, shrR]
  split_ifs <;> omega

/-- Settles O4: the rows match the words that name a command once each, and no other word. -/
theorem opcodeRowsAreExactlyTheCommands : Obligations.OpcodeRowsAreExactlyTheCommands := by
  refine ⟨rfl, fun w => ?_⟩
  rw [← List.countP_eq_length_filter, countP_hits_opcodeTable]
  cases decoded : decode w with
  | command i => exact if_pos ((namesCommand_iff w).mp ⟨i, decoded⟩)
  | illegal why => exact if_neg fun number => by simpa [decoded] using (namesCommand_iff w).mpr number

end Sys2Proof.Machine
end

section
/-! PROOFS. The assembler, line by line: what a line of each form assembles to, and what it is refused for (30_encoding.md
R81, R82). -/

namespace Sys2Proof.Machine

/-! ## One form -/

theorem assembleK_distanceRange (p : Params) (dir : Dir) {d : Nat} (v : Nat) (h : 255 < d) :
    assembleK p dir d v = .refusal .distanceRange := by
  rw [assembleK, if_pos h]

theorem assembleR_distanceRange (p : Params) (dir : Dir) (v : Nat) {d : Nat} (h : 255 < d) :
    assembleR p dir v d = .refusal .distanceRange := by
  rw [assembleR, if_pos h]

/-- A K form without a transform is refused, and for that reason when its literals are in range (R81). -/
theorem assembleK_of_not_resolve {p : Params} {dir : Dir} {d : Nat} (v : Nat) (h : resolve p dir d = false) :
    ∃ why, assembleK p dir d v = .refusal why ∧ (d ≤ 255 → v < 2 ^ 32 → why = .noTransform) := by
  unfold assembleK
  split_ifs with range wide
  · exact ⟨_, rfl, fun _ => by omega⟩
  · exact ⟨_, rfl, fun _ _ => by omega⟩
  · exact ⟨_, rfl, fun _ _ => rfl⟩

/-- An R form with `RTA` = 0 is refused, and for that reason when its literals are in range (R81). -/
theorem assembleR_of_rta_zero {p : Params} (dir : Dir) (v d : Nat) (h : p.rta = 0) :
    ∃ why, assembleR p dir v d = .refusal why ∧ (d ≤ 255 → v < 2 ^ 32 → why = .noRunTime) := by
  unfold assembleR
  split_ifs with range wide
  · exact ⟨_, rfl, fun _ => by omega⟩
  · exact ⟨_, rfl, fun _ _ => by omega⟩
  · exact ⟨_, rfl, fun _ _ => rfl⟩

theorem assembleK_of_resolve {p : Params} {dir : Dir} {d v : Nat} (value : v < 2 ^ 32) (range : d ≤ 255)
    (transform : resolve p dir d = true) : assembleK p dir d v = .output
      { cmd := cmdWord 0 0 (bitOfDir dir) (BitVec.ofNat 8 d), value := BitVec.ofNat 32 v, dist := 0 } := by
  rw [assembleK, if_neg (by omega), if_neg (by omega), if_neg (by simp [transform])]

theorem assembleR_of_rta {p : Params} (dir : Dir) {v d : Nat} (value : v < 2 ^ 32) (range : d ≤ 255) (rta : p.rta ≠ 0) :
    assembleR p dir v d = .output
      { cmd := cmdWord 0 1 (bitOfDir dir) 0, value := BitVec.ofNat 32 v, dist := BitVec.ofNat 8 d } := by
  rw [assembleR, if_neg (by omega), if_neg (by omega), if_neg rta]

/-- The word of an assembled K form is no error command: its distance resolves (60_exceptions.md R231, R234). -/
theorem decodeErr_of_assembleK {p : Params} {dir : Dir} {d v : Nat} {q : Request} (h : assembleK p dir d v = .output q) :
    decodeErr p q.cmd = errOk := by
  unfold assembleK at h
  split_ifs at h with range wide noTransform
  cases h
  have whole : (BitVec.ofNat 8 d).toNat = d := by simp; omega
  rw [decodeErr_k, whole, if_pos (by simpa using noTransform)]

/-- The word of an assembled R form is no error command: the run-time dispatcher is there (R231, R233). -/
theorem decodeErr_of_assembleR {p : Params} {dir : Dir} {v d : Nat} {q : Request} (h : assembleR p dir v d = .output q) :
    decodeErr p q.cmd = errOk := by
  unfold assembleR at h
  split_ifs at h with range wide noRunTime
  cases h
  rw [decodeErr_r, if_neg noRunTime]

/-! ## One line -/

theorem assembleLine_of_mem_kLines (p : Params) {dir : Dir} {v d : Nat} {l : AsmLine} (h : l ∈ kLines dir v d) :
    assembleLine p l = assembleK p dir d v := by
  cases dir <;> simp only [kLines, List.mem_cons, List.not_mem_nil, or_false] at h <;> obtain rfl | rfl := h <;> rfl

theorem assembleLine_of_mem_rLines (p : Params) {v d : Nat} {l : AsmLine} (h : l ∈ rLines v d) :
    ∃ dir, assembleLine p l = assembleR p dir v d := by
  simp only [rLines, List.mem_cons, List.not_mem_nil, or_false] at h
  obtain rfl | rfl | rfl | rfl := h
  exacts [⟨.left, rfl⟩, ⟨.right, rfl⟩, ⟨.left, rfl⟩, ⟨.right, rfl⟩]

/-- Every line is assembled as a K form or as an R form (R81, R82). -/
theorem assembleLine_cases (p : Params) (l : AsmLine) :
    (∃ dir d v, assembleLine p l = assembleK p dir d v) ∨ ∃ dir v d, assembleLine p l = assembleR p dir v d := by
  cases l with
  | shlR v d | shrR v d | lshiftRun v d | rshiftRun v d => exact .inr ⟨_, _, _, rfl⟩
  | _ => exact .inl ⟨_, _, _, rfl⟩

theorem decodeErr_of_assembleLine {p : Params} {l : AsmLine} {q : Request} (h : assembleLine p l = .output q) :
    decodeErr p q.cmd = errOk := by
  obtain ⟨dir, d, v, form⟩ | ⟨dir, v, d, form⟩ := assembleLine_cases p l
  · exact decodeErr_of_assembleK (form ▸ h)
  · exact decodeErr_of_assembleR (form ▸ h)

/-! ## The pseudo-instructions -/

/-- The word of a K form whose distance is a literal in range is the base word of its direction with the distance in its
low bits (R65, R82). -/
theorem kWord_ofNat (dir : Dir) {d : Nat} (range : d ≤ 255) :
    cmdWord 0 0 (bitOfDir dir) (BitVec.ofNat 8 d) = cmdWord 0 0 (bitOfDir dir) 0 ||| BitVec.ofNat 16 d := by
  have whole : (BitVec.ofNat 8 d).setWidth 16 = BitVec.ofNat 16 d := by
    apply BitVec.eq_of_toNat_eq
    simp only [BitVec.toNat_setWidth, BitVec.toNat_ofNat]
    omega
  simp [cmdWord, whole]

/-- Settles O60: each pseudo-instruction is a K form whose distance resolves, or an R form; 0, 16 and 32 always resolve. -/
theorem pseudoInstructionsExpand : Obligations.PseudoInstructionsExpand := by
  intro p v d value range
  refine ⟨fun transform => ?_, fun transform => ?_, fun rta => ⟨?_, ?_⟩, ?_, ?_, ?_, ?_⟩
  · exact (assembleK_of_resolve value range transform).trans (by rw [kWord_ofNat .left range]; rfl)
  · exact (assembleK_of_resolve value range transform).trans (by rw [kWord_ofNat .right range]; rfl)
  · exact assembleR_of_rta .left value range rta
  · exact assembleR_of_rta .right value range rta
  · exact assembleK_of_resolve value (by decide) (resolve_zero p .left)
  · exact assembleK_of_resolve value (by decide) (resolve_sixteen p .left)
  · exact assembleK_of_resolve value (by decide) (resolve_sixteen p .right)
  · exact assembleK_of_resolve value (by decide) (resolve_thirtyTwo p .left)

end Sys2Proof.Machine
end

section
/-! PROOFS. The assembler's text: the forms of a line, the mnemonics, and a program read line by line (30_encoding.md R81;
60_exceptions.md R237). -/

namespace Sys2Proof.Machine

/-! ## The forms of a line -/

theorem withLiterals_of_literal (form : Nat → Nat → AsmLine) {a b : List Char} {x y : Nat} (ha : literal a = some x)
    (hb : literal b = some y) : withLiterals form a b = some (form x y) := by
  simp [withLiterals, ha, hb]

/-- A line that begins with another mnemonic than those of R81 and R82 is of no form. -/
theorem parseTokens_of_not_mnemonic {m : List Char} (h : m ∉ assemblyMnemonics) (ts : List Token) :
    parseTokens (.word m :: ts) = none := by
  simp only [assemblyMnemonics, List.mem_cons, List.not_mem_nil, or_false, not_or] at h
  obtain ⟨shlK, shrK, shlR, shrR, lshift, rshift, mov, perm16L, perm16R, clr⟩ := h
  unfold parseTokens
  split
  case h_1 e => cases e; rw [immediateForm, if_neg shlK, if_neg shrK]
  case h_2 e => cases e; rw [runTimeForm, if_neg shlR, if_neg shrR]
  case h_3 e => cases e; rw [callForm, if_neg lshift, if_neg rshift]
  case h_4 e => cases e; rw [singleForm, if_neg mov, if_neg perm16L, if_neg perm16R, if_neg clr]
  case h_5 => rfl

/-! ## A program, line by line -/

/-- A line of text that gives the request `q`: it is of a form, and the form assembles to `q` (R81). -/
def LineGives (p : Params) (line : List Char) (q : Request) : Prop :=
  ∃ t ts l, tokens [] line = t :: ts ∧ parseTokens (t :: ts) = some l ∧ assembleLine p l = .output q

/-- A line is blank, is refused, or gives a request. -/
theorem line_cases (p : Params) (line : List Char) :
    tokens [] line = [] ∨ (∃ why, LineRefused p line why) ∨ ∃ q, LineGives p line q := by
  cases toks : tokens [] line with
  | nil => exact .inl rfl
  | cons t ts =>
    refine .inr ?_
    cases parsed : parseTokens (t :: ts) with
    | none => exact .inl ⟨_, t, ts, toks, .inl ⟨parsed, rfl⟩⟩
    | some l =>
      cases assembled : assembleLine p l with
      | output q => exact .inr ⟨q, t, ts, l, toks, parsed, assembled⟩
      | refusal why => exact .inl ⟨why, t, ts, toks, .inr ⟨l, parsed, assembled⟩⟩

theorem decodeErr_of_lineGives {p : Params} {line : List Char} {q : Request} (h : LineGives p line q) :
    decodeErr p q.cmd = errOk := by
  obtain ⟨-, -, l, -, -, assembled⟩ := h
  exact decodeErr_of_assembleLine assembled

section
variable {p : Params} {line : List Char} (n : Nat) (rest : List (List Char))

theorem assembleFrom_blank (h : tokens [] line = []) : assembleFrom p n (line :: rest) = assembleFrom p (n + 1) rest := by
  rw [assembleFrom, h]

theorem assembleFrom_refused {why : AsmRefusal} (h : LineRefused p line why) :
    assembleFrom p n (line :: rest) = .refusal { line := n, why := why } := by
  obtain ⟨t, ts, toks, ⟨parsed, rfl⟩ | ⟨l, parsed, refused⟩⟩ := h
  · simp [assembleFrom, toks, parsed]
  · simp [assembleFrom, toks, parsed, refused]

theorem assembleFrom_gives_output {q : Request} {qs : List Request} (h : LineGives p line q)
    (later : assembleFrom p (n + 1) rest = .output qs) : assembleFrom p n (line :: rest) = .output (q :: qs) := by
  obtain ⟨t, ts, l, toks, parsed, assembled⟩ := h
  simp [assembleFrom, toks, parsed, assembled, later]

theorem assembleFrom_gives_refusal {q : Request} {e : Diagnostic} (h : LineGives p line q)
    (later : assembleFrom p (n + 1) rest = .refusal e) : assembleFrom p n (line :: rest) = .refusal e := by
  obtain ⟨t, ts, l, toks, parsed, assembled⟩ := h
  simp [assembleFrom, toks, parsed, assembled, later]

end

/-- A program that assembles begins with a blank line or with a line that gives its first request. -/
theorem assembleFrom_cons_output {p : Params} {n : Nat} {line : List Char} {rest : List (List Char)} {out : List Request}
    (h : assembleFrom p n (line :: rest) = .output out) :
    (tokens [] line = [] ∧ assembleFrom p (n + 1) rest = .output out) ∨
      ∃ q qs, LineGives p line q ∧ assembleFrom p (n + 1) rest = .output qs ∧ out = q :: qs := by
  obtain blank | ⟨why, refused⟩ | ⟨q, gives⟩ := line_cases p line
  · exact .inl ⟨blank, (assembleFrom_blank n rest blank).symm.trans h⟩
  · cases h.symm.trans (assembleFrom_refused n rest refused)
  · cases later : assembleFrom p (n + 1) rest with
    | refusal e => cases h.symm.trans (assembleFrom_gives_refusal n rest gives later)
    | output qs =>
      cases h.symm.trans (assembleFrom_gives_output n rest gives later)
      exact .inr ⟨q, qs, gives, rfl, rfl⟩

theorem assembleFrom_emits_no_error {p : Params} {n : Nat} {program : List (List Char)} {out : List Request}
    (h : assembleFrom p n program = .output out) : ∀ q ∈ out, decodeErr p q.cmd = errOk := by
  induction program generalizing n out with
  | nil => cases h; simp
  | cons line rest ih =>
    obtain ⟨-, later⟩ | ⟨q, qs, gives, later, rfl⟩ := assembleFrom_cons_output h
    · exact ih later
    · exact List.forall_mem_cons.mpr ⟨decodeErr_of_lineGives gives, ih later⟩

/-- After lines that assemble, a refused line is answered by its diagnostic, whatever follows (R81, R237). -/
theorem assembleFrom_append_refused {p : Params} {n : Nat} {before : List (List Char)} {line : List Char}
    {out : List Request} {why : AsmRefusal} (h : assembleFrom p n before = .output out) (refused : LineRefused p line why)
    (after : List (List Char)) :
    assembleFrom p n (before ++ line :: after) = .refusal { line := before.length + n, why := why } := by
  induction before generalizing n out with
  | nil => simpa using assembleFrom_refused n after refused
  | cons first rest ih =>
    have number : (first :: rest).length + n = rest.length + (n + 1) := by simp only [List.length_cons]; omega
    rw [number, List.cons_append]
    obtain ⟨blank, later⟩ | ⟨q, qs, gives, later, -⟩ := assembleFrom_cons_output h
    · exact (assembleFrom_blank n _ blank).trans (ih later)
    · exact assembleFrom_gives_refusal n _ gives (ih later)

/-- Settles O59: an assembled line is a K form that resolves or an R form with the dispatcher; the refusals are those of
its form; a program is read line by line. -/
theorem assemblerNeverEmitsAnErrorCommand : Obligations.AssemblerNeverEmitsAnErrorCommand := by
  refine ⟨fun p program out => assembleFrom_emits_no_error, ?distance, ?noTransform, ?noRunTime, ?forms,
    fun m ts h => parseTokens_of_not_mnemonic h ts,
    fun p before after line out why assembled refused => assembleFrom_append_refused assembled refused after⟩
  case distance =>
    intro p v d l mem range
    rw [List.mem_append, List.mem_append] at mem
    obtain (left | right) | runTime := mem
    · rw [assembleLine_of_mem_kLines p left, assembleK_distanceRange p .left v range]
    · rw [assembleLine_of_mem_kLines p right, assembleK_distanceRange p .right v range]
    · obtain ⟨dir, form⟩ := assembleLine_of_mem_rLines p runTime
      rw [form, assembleR_distanceRange p dir v range]
  case noTransform =>
    intro p dir v d l mem noTransform
    rw [assembleLine_of_mem_kLines p mem]
    exact assembleK_of_not_resolve v noTransform
  case noRunTime =>
    intro p v d l mem rta
    obtain ⟨dir, form⟩ := assembleLine_of_mem_rLines p mem
    rw [form]
    exact assembleR_of_rta_zero dir v d rta
  case forms =>
    intro v d vs ds value dist
    exact ⟨withLiterals_of_literal .shlK dist value, withLiterals_of_literal .shrK dist value,
      withLiterals_of_literal .shlR value dist, withLiterals_of_literal .shrR value dist⟩

end Sys2Proof.Machine
end

section
/-! PROOFS. The contract functions (00_scope.md R22): their corner cases, and what a shift of a word is as a number. -/

namespace Sys2Proof.Machine

theorem toNat_shl32 (v : Word32) (d : Nat) : (shl32 v d).toNat = v.toNat * 2 ^ d % 2 ^ 32 := BitVec.toNat_ofNat ..

theorem toNat_shr32 (v : Word32) (d : Nat) : (shr32 v d).toNat = v.toNat / 2 ^ d := by
  rw [shr32, BitVec.toNat_ofNat, Nat.mod_eq_of_lt ((Nat.div_le_self _ _).trans_lt v.isLt)]

@[simp] theorem shift32_zero_distance (dir : Dir) (v : Word32) : shift32 dir v 0 = v := by
  cases dir <;> simp [shift32, shl32, shr32]

@[simp] theorem shift32_zero_value (dir : Dir) (d : Nat) : shift32 dir 0 d = 0 := by
  cases dir <;> simp [shift32, shl32, shr32]

/-- From distance 32 on no bit of the value is left: on the left every bit is past the word, on the right past bit 0. -/
theorem shift32_of_thirtyTwo_le (dir : Dir) (v : Word32) {d : Nat} (h : 32 ≤ d) : shift32 dir v d = 0 := by
  apply BitVec.eq_of_toNat_eq
  cases dir with
  | left =>
    have multiple : 2 ^ 32 ∣ v.toNat * 2 ^ d := Dvd.dvd.mul_left (pow_dvd_pow 2 h) _
    exact (toNat_shl32 v d).trans (Nat.mod_eq_zero_of_dvd multiple)
  | right =>
    have below : v.toNat < 2 ^ d := v.isLt.trans_le (Nat.pow_le_pow_right (by decide) h)
    exact (toNat_shr32 v d).trans (Nat.div_eq_of_lt below)

theorem shl32_thirtyOne (v : Word32) : shl32 v 31 = if v.getLsbD 0 then 0x80000000 else 0 := by
  apply BitVec.eq_of_toNat_eq
  rw [toNat_shl32, BitVec.getLsbD, Nat.testBit_eq_decide_div_mod_eq]
  simp only [decide_eq_true_eq]
  split_ifs with bit
  · change v.toNat * 2 ^ 31 % 2 ^ 32 = 0x80000000; omega
  · change v.toNat * 2 ^ 31 % 2 ^ 32 = 0; omega

theorem shr32_thirtyOne (v : Word32) : shr32 v 31 = if v.getLsbD 31 then 1 else 0 := by
  have bound := v.isLt
  apply BitVec.eq_of_toNat_eq
  rw [toNat_shr32, BitVec.getLsbD, Nat.testBit_eq_decide_div_mod_eq]
  simp only [decide_eq_true_eq]
  split_ifs with bit
  · change v.toNat / 2 ^ 31 = 1; omega
  · change v.toNat / 2 ^ 31 = 0; omega

/-- Settles O16: 2^d takes every bit out of the word from d = 32 on, and at d = 31 the end bit alone is left. -/
theorem contractCornerCases : Obligations.ContractCornerCases :=
  ⟨fun dir v d => ⟨shift32_zero_distance dir v, shift32_of_thirtyTwo_le dir v, shift32_zero_value dir d⟩,
    fun v => ⟨shl32_thirtyOne v, shr32_thirtyOne v⟩⟩

end Sys2Proof.Machine
end

section
/-! PROOFS. The datapaths compute the contract (40_left_shift.md R100, R120; 41_right_shift.md R140, R160;
42_permute16.md R181, R182; 44_decomposition_dispatch.md R205): each is a number computed from the bytes of the word. -/

namespace Sys2Proof.Machine

/-! ## The bytes of a word -/

theorem toNat_wordOf (xs : List Byte) : (wordOf xs).toNat = bytesValue xs % 2 ^ 32 := BitVec.toNat_ofNat ..

theorem toNat_lane (v : Word32) (i : Nat) : (lane v i).toNat = v.toNat / 2 ^ (8 * i) % 2 ^ 8 := by
  rw [lane, BitVec.extractLsb'_toNat, Nat.shiftRight_eq_div_pow]

/-- Without its first byte a list is its number below that byte. -/
theorem bytesValue_tail (xs : List Byte) : bytesValue xs.tail = bytesValue xs % 256 ^ (xs.length - 1) := by
  cases xs with
  | nil => rfl
  | cons x xs =>
    rw [List.tail_cons, bytesValue_cons, List.length_cons, Nat.add_sub_cancel, Nat.mul_add_mod_self_right,
      Nat.mod_eq_of_lt (bytesValue_lt xs)]

/-- Without its last byte a list is its number above that byte. -/
theorem bytesValue_dropLast (xs : List Byte) : bytesValue xs.dropLast = bytesValue xs / 256 := by
  induction xs using List.reverseRecOn with
  | nil => rfl
  | append_singleton xs x _ =>
    rw [List.dropLast_concat, bytesValue_concat]
    omega

theorem toNat_zero_byte : (0 : Byte).toNat = 0 := rfl

theorem length_nib4L (x3 x2 x1 x0 : Byte) : (nib4L x3 x2 x1 x0).length = 4 := rfl

/-! ## The permute unit -/

theorem perm16_eq_shift32 (dir : Dir) (x : Word32) : perm16 dir x = shift32 dir x 16 := by
  have bound := x.isLt
  apply BitVec.eq_of_toNat_eq
  cases dir with
  | left =>
    simp only [perm16, perm16L, shift32, toNat_shl32, toNat_wordOf, toNat_zero_byte, bytesValue_cons,
      bytesValue_nil, toNat_lane, List.length_cons, List.length_nil]
    omega
  | right =>
    simp only [perm16, perm16R, shift32, toNat_shr32, toNat_wordOf, toNat_zero_byte, bytesValue_cons,
      bytesValue_nil, toNat_lane, List.length_cons, List.length_nil]
    omega

/-! ## The specializations -/

/-- R120: each left specialization multiplies by its power of 2. NIB is times 16, a carry step doubles, a rotate pass
halves the word taken up one byte, and a byte taken up is times 256. -/
theorem specL_eq_shl32 (k : SpecDist) (v : Word32) : specL k v = shl32 v k.toNat := by
  have bound := v.isLt
  apply BitVec.eq_of_toNat_eq
  rw [toNat_shl32]
  cases k with
  | d4 | d12 =>
    simp only [specL, pathL4, pathL12, SpecDist.toNat, toNat_wordOf, bytesValue_nib4L, toNat_zero_byte,
      bytesValue_cons, bytesValue_nil, toNat_lane, List.length_cons, List.length_nil]
    omega
  | d5 | d13 =>
    simp only [specL, pathL5, pathL13, SpecDist.toNat, toNat_wordOf, bytesValue_shl1Chain, bytesValue_nib4L,
      length_nib4L, toNat_zero_byte, bytesValue_cons, bytesValue_nil, toNat_lane, List.length_cons, List.length_nil]
    omega
  | d6 | d7 | d14 | d15 =>
    simp only [specL, pathL6, pathL7, pathL14, pathL15, SpecDist.toNat, toNat_wordOf, bytesValue_tail,
      bytesValue_shr1Chain, length_shr1Chain, toNat_zero_byte, bytesValue_cons, bytesValue_nil, toNat_lane,
      List.length_cons, List.length_nil]
    omega
  | d9 | d10 | d11 =>
    simp only [specL, pathL9, pathL10, pathL11, SpecDist.toNat, toNat_wordOf, bytesValue_concat,
      bytesValue_shl1Chain, length_shl1Chain, toNat_zero_byte, bytesValue_cons, bytesValue_nil, toNat_lane,
      List.length_cons, List.length_nil]
    omega

/-- R160: the mirror. -/
theorem specR_eq_shr32 (k : SpecDist) (v : Word32) : specR k v = shr32 v k.toNat := by
  have bound := v.isLt
  apply BitVec.eq_of_toNat_eq
  rw [toNat_shr32]
  cases k with
  | d4 | d12 =>
    simp only [specR, pathR4, pathR12, SpecDist.toNat, toNat_wordOf, bytesValue_nib4R, toNat_zero_byte,
      bytesValue_cons, bytesValue_nil, toNat_lane, List.length_cons, List.length_nil]
    omega
  | d5 | d13 =>
    simp only [specR, pathR5, pathR13, SpecDist.toNat, toNat_wordOf, bytesValue_shr1Chain, bytesValue_nib4R,
      toNat_zero_byte, bytesValue_cons, bytesValue_nil, toNat_lane, List.length_cons, List.length_nil]
    omega
  | d6 | d7 | d14 | d15 =>
    simp only [specR, pathR6, pathR7, pathR14, pathR15, SpecDist.toNat, toNat_wordOf, bytesValue_dropLast,
      bytesValue_shl1Chain, length_shl1Chain, toNat_zero_byte, bytesValue_cons, bytesValue_nil, toNat_lane,
      List.length_cons, List.length_nil]
    omega
  | d9 | d10 | d11 =>
    simp only [specR, pathR9, pathR10, pathR11, SpecDist.toNat, toNat_wordOf, bytesValue_shr1Chain,
      toNat_zero_byte, bytesValue_cons, bytesValue_nil, toNat_lane, List.length_cons, List.length_nil]
    omega

/-! ## The final selection -/

theorem eq_toNat_of_specOf {d : Nat} {k : SpecDist} (h : specOf d = some k) : d = k.toNat := by
  unfold specOf at h
  split at h <;> cases h <;> rfl

/-- `SEL` gives the families of a fixed distance only at that distance (30_encoding.md R75). -/
theorem distance_of_sel {p : Params} {dir : Dir} {d : Nat} :
    (sel p dir d = .ident → d = 0) ∧ (sel p dir d = .perm16 → d = 16) ∧ ∀ k, sel p dir d = .spec k → d = k.toNat := by
  unfold sel
  split_ifs with _ zero sixteen
  · simp
  · simp [zero]
  · simp [sixteen]
  · simp
  all_goals
    split
    · next spec => simp [eq_toNat_of_specOf spec]
    · simp

/-- The fallback path is the contract function itself (43_fallback.md R191, R192). -/
theorem refShift_eq_shift32 (dir : Dir) (x : Word32) (d : Nat) : refShift dir x d = shift32 dir x d := by cases dir <;> rfl

theorem specPath_eq_shift32 (dir : Dir) (k : SpecDist) (x : Word32) : specPath dir k x = shift32 dir x k.toNat := by
  cases dir with
  | left => exact specL_eq_shl32 k x
  | right => exact specR_eq_shr32 k x

/-- Whatever family `SEL` selects, short of the two unreachable arms, the answer is the contract's (R205). -/
theorem apply_eq_shift32 {p : Params} {dir : Dir} {d : Nat} (x : Word32) (notDecomp : sel p dir d ≠ .decomp)
    (notNone : sel p dir d ≠ .none) : apply p dir d x = .ok (shift32 dir x d) := by
  obtain ⟨identity, permute, specialized⟩ := distance_of_sel (p := p) (dir := dir) (d := d)
  unfold apply
  cases selected : sel p dir d with
  | ident => rw [identity selected, shift32_zero_distance]
  | fallback => rw [← refShift_eq_shift32]
  | perm16 => rw [permute selected, ← perm16_eq_shift32]
  | spec k => rw [specialized k selected, ← specPath_eq_shift32]
  | decomp => exact absurd selected notDecomp
  | none => exact absurd selected notNone

end Sys2Proof.Machine
end

section
/-! PROOFS. The STEP of a K form in `RUN` (44_decomposition_dispatch.md R204): it responds with the exact shift, or takes
16 off the distance. Each K form is `kRequest` at its own direction and distance (40_left_shift.md, 41_right_shift.md). -/

namespace Sys2Proof.Machine

section
variable (dir : Dir) (d : Dist) {s : State} (run : s.ctl = ctlRun)
include run

/-- Where `SEL` gives a datapath, the one STEP answers the exact shift. -/
theorem kRequest_responds (notDecomp : sel s.params dir d.toNat ≠ .decomp) (notNone : sel s.params dir d.toNat ≠ .none) :
    kRequest dir d s = .next (s.responding (shift32 dir s.w d.toNat)) := by
  have last : ¬(s.params.opt = 1 ∧ decomposes s.params 1 dir d.toNat = true) := by simp [decomposes, notDecomp]
  rw [kRequest_run dir d s run, stepEvent_of_apply last (apply_eq_shift32 s.w notDecomp notNone)]

/-- The distances up to 16 but 1, 2, 3 and 8 have a datapath under every parameter setting. -/
theorem kRequest_responds_of_le_sixteen (upToSixteen : d.toNat ≤ 16) (own : d.toNat ∉ [1, 2, 3, 8]) :
    kRequest dir d s = .next (s.responding (shift32 dir s.w d.toNat)) :=
  kRequest_responds dir d run (fun decomp => (sixteen_lt_of_sel_decomp decomp).not_ge upToSixteen)
    fun noArm => own (small_of_sel_none noArm).1

/-- Where the fallback serves a distance, by `OPT` = 0 or by the direction's set, it answers the exact shift (43_fallback.md
R193). -/
theorem kRequest_responds_of_fallback (zero : d.toNat ≠ 0) (sixteen : d.toNat ≠ 16)
    (serves : s.params.opt = 0 ∨ d.toNat ∈ fallbackSet s.params dir) :
    kRequest dir d s = .next (s.responding (shift32 dir s.w d.toNat)) := by
  have fallback : sel s.params dir d.toNat = .fallback := by
    by_cases plain : s.params.opt = 0
    · exact sel_of_opt_zero dir _ plain
    · exact sel_of_mem_fallbackSet plain dir zero sixteen (serves.resolve_left plain)
  exact kRequest_responds dir d run (by simp [fallback]) (by simp [fallback])

/-- With `OPT` = 1 a distance above 16 outside the direction's set takes one permute STEP (R119, R159, R204). -/
theorem kRequest_permutes (optimized : s.params.opt = 1) (above : 16 < d.toNat)
    (notMem : d.toNat ∉ fallbackSet s.params dir) :
    kRequest dir d s = .next { s with w := shift32 dir s.w 16, r := d - 16 } := by
  have decomp : sel s.params dir d.toNat = .decomp := sel_decomp (by omega) dir above notMem
  rw [kRequest_run dir d s run, stepEvent_of_decomposes ⟨optimized, decomposes_of_sel_decomp 1 decomp⟩, State.permuted,
    perm16_eq_shift32]

end

theorem isDecDist_iff (d : Dist) : isDecDist d = true ↔ 16 < d.toNat ∧ d.toNat ≠ 24 := by
  simp [isDecDist, Nat.lt_iff_add_one_le]

/-- Settles O22: distance 0 has a datapath under every parameter setting, and the contract there is the value itself. -/
theorem identityKeepsTheValue : Obligations.IdentityKeepsTheValue := by
  intro s run
  have unchanged (dir : Dir) : kRequest dir 0 s = .next (s.responding s.w) := by
    simpa using kRequest_responds_of_le_sixteen dir 0 run (by decide) (by decide)
  exact ⟨unchanged .left, unchanged .right⟩

/-- Settles O23: the nibble distances have a datapath under every parameter setting. -/
theorem leftNibbleFamily : Obligations.LeftNibbleFamily := fun _ run =>
  ⟨kRequest_responds_of_le_sixteen .left 4 run (by decide) (by decide),
    kRequest_responds_of_le_sixteen .left 5 run (by decide) (by decide),
    kRequest_responds_of_le_sixteen .left 12 run (by decide) (by decide),
    kRequest_responds_of_le_sixteen .left 13 run (by decide) (by decide)⟩

/-- Settles O25: the rotate distances have a datapath under every parameter setting. -/
theorem leftRotateFamily : Obligations.LeftRotateFamily := fun _ run =>
  ⟨kRequest_responds_of_le_sixteen .left 6 run (by decide) (by decide),
    kRequest_responds_of_le_sixteen .left 7 run (by decide) (by decide),
    kRequest_responds_of_le_sixteen .left 14 run (by decide) (by decide),
    kRequest_responds_of_le_sixteen .left 15 run (by decide) (by decide)⟩

/-- Settles O27: the byte distances have a datapath under every parameter setting. -/
theorem leftByteFamily : Obligations.LeftByteFamily := fun _ run =>
  ⟨kRequest_responds_of_le_sixteen .left 9 run (by decide) (by decide),
    kRequest_responds_of_le_sixteen .left 10 run (by decide) (by decide),
    kRequest_responds_of_le_sixteen .left 11 run (by decide) (by decide)⟩

/-- Settles O29: 16 is not decomposed, and both the permute unit and the fallback of `OPT` = 0 shift by 16. -/
theorem permuteCommandsMoveSixteen : Obligations.PermuteCommandsMoveSixteen := fun _ run =>
  ⟨kRequest_responds_of_le_sixteen .left 16 run (by decide) (by decide),
    kRequest_responds_of_le_sixteen .right 16 run (by decide) (by decide)⟩

/-- Settles O30: the fallback is the contract function, and 24 outside its set is above 16. -/
theorem leftFallbackFamily : Obligations.LeftFallbackFamily := fun _ run =>
  ⟨kRequest_responds_of_fallback .left 1 run (by decide) (by decide),
    kRequest_responds_of_fallback .left 2 run (by decide) (by decide),
    kRequest_responds_of_fallback .left 3 run (by decide) (by decide),
    kRequest_responds_of_fallback .left 8 run (by decide) (by decide),
    kRequest_responds_of_fallback .left 24 run (by decide) (by decide),
    fun optimized => kRequest_permutes .left 24 run optimized (by decide)⟩

/-- Settles O32: a decomposition distance is above 16, so `SEL` leaves only the fallback and the permute STEP. -/
theorem leftDecompositionStep : Obligations.LeftDecompositionStep := by
  intro d s dec run
  obtain ⟨above, -⟩ := (isDecDist_iff d).mp dec
  exact ⟨fun optimized => kRequest_permutes .left d run optimized above,
    kRequest_responds_of_fallback .left d run (by omega) (by omega)⟩

end Sys2Proof.Machine
end

section
/-! PROOFS. The right-shift K forms in `RUN` (41_right_shift.md R141 to R159; 44_decomposition_dispatch.md R204): each is
`kRequest .right` at its own distance, and the rules of that STEP do not depend on the direction. -/

namespace Sys2Proof.Machine

/-- Settles O24: the nibble distances are up to 16 and have a datapath of their own under every parameter setting. -/
theorem rightNibbleFamily : Obligations.RightNibbleFamily := by
  intro s run
  have responds (d : Dist) := kRequest_responds_of_le_sixteen .right d run
  exact ⟨responds 4 (by decide) (by decide), responds 5 (by decide) (by decide), responds 12 (by decide) (by decide),
    responds 13 (by decide) (by decide)⟩

/-- Settles O26: the rotate distances are up to 16 and have a datapath of their own under every parameter setting. -/
theorem rightRotateFamily : Obligations.RightRotateFamily := by
  intro s run
  have responds (d : Dist) := kRequest_responds_of_le_sixteen .right d run
  exact ⟨responds 6 (by decide) (by decide), responds 7 (by decide) (by decide), responds 14 (by decide) (by decide),
    responds 15 (by decide) (by decide)⟩

/-- Settles O28: the byte distances are up to 16 and have a datapath of their own under every parameter setting. -/
theorem rightByteFamily : Obligations.RightByteFamily := by
  intro s run
  have responds (d : Dist) := kRequest_responds_of_le_sixteen .right d run
  exact ⟨responds 9 (by decide) (by decide), responds 10 (by decide) (by decide), responds 11 (by decide) (by decide)⟩

/-- Settles O31: the fallback serves each distance that is neither 0 nor 16, and 24 outside its set is above 16. -/
theorem rightFallbackFamily : Obligations.RightFallbackFamily := by
  intro s run
  have responds (d : Dist) := kRequest_responds_of_fallback .right d run
  exact ⟨responds 1 (by decide) (by decide), responds 2 (by decide) (by decide), responds 3 (by decide) (by decide),
    responds 8 (by decide) (by decide), responds 24 (by decide) (by decide),
    fun optimized => kRequest_permutes .right 24 run optimized (by decide)⟩

/-- Settles O33: a decomposition distance is above 16, so `SEL` leaves only the fallback and the permute STEP. -/
theorem rightDecompositionStep : Obligations.RightDecompositionStep := by
  intro d s dec run
  obtain ⟨above, -⟩ := (isDecDist_iff d).mp dec
  exact ⟨fun optimized => kRequest_permutes .right d run optimized above,
    kRequest_responds_of_fallback .right d run (by omega) (by omega)⟩

end Sys2Proof.Machine
end

section
/-! PROOFS. The permute unit as wiring of byte lanes (42_permute16.md R181 to R183): a lane of a word made of bytes is one
of the bytes, so each law is read off the lanes. -/

namespace Sys2Proof.Machine

/-! ## The lanes of a word -/

/-- The digits of a byte list's number, base 256, are its bytes; it lists them most significant first (R13). -/
theorem bytesValue_digit (xs : List Byte) (i : Nat) :
    bytesValue xs / 256 ^ i % 256 = (xs.reverse.getD i 0).toNat := by
  induction xs using List.reverseRecOn generalizing i with
  | nil => simp
  | append_singleton xs x ih =>
    have byte : x.toNat < 256 := x.isLt
    rw [bytesValue_concat, List.reverse_concat]
    cases i with
    | zero => rw [List.getD_cons_zero]; omega
    | succ i =>
      have upper : (bytesValue xs * 256 + x.toNat) / 256 = bytesValue xs := by omega
      rw [List.getD_cons_succ, ← ih, pow_succ', ← Nat.div_div_eq_div_mul, upper]

theorem lane_wordOf (xs : List Byte) {i : Nat} (h : i < 4) : lane (wordOf xs) i = xs.reverse.getD i 0 := by
  have digit := bytesValue_digit xs i
  apply BitVec.eq_of_toNat_eq
  rw [toNat_lane, toNat_wordOf]
  interval_cases i <;> omega

/-- A word is the bytes of its own lanes. -/
theorem wordOf_lanes (x : Word32) : wordOf (lanes x) = x := by
  have bound := x.isLt
  apply BitVec.eq_of_toNat_eq
  simp only [lanes, toNat_wordOf, bytesValue_cons, bytesValue_nil, toNat_lane, List.length_cons, List.length_nil]
  omega

theorem lane_and (x m : Word32) (i : Nat) : lane (x &&& m) i = lane x i &&& lane m i := BitVec.extractLsb'_and

/-- A mask given by its bytes works on each lane. -/
theorem and_wordOf (x : Word32) (m3 m2 m1 m0 : Byte) :
    x &&& wordOf [m3, m2, m1, m0] = wordOf [lane x 3 &&& m3, lane x 2 &&& m2, lane x 1 &&& m1, lane x 0 &&& m0] := by
  rw [← wordOf_lanes (x &&& wordOf [m3, m2, m1, m0])]
  simp [lanes, lane_and, lane_wordOf]

theorem and_lowHalf (x : Word32) : x &&& 0x0000FFFF = wordOf [0, 0, lane x 1, lane x 0] := by
  have mask : (0x0000FFFF : Word32) = wordOf [0#8, 0#8, BitVec.allOnes 8, BitVec.allOnes 8] := by decide
  rw [mask, and_wordOf, BitVec.and_zero, BitVec.and_zero, BitVec.and_allOnes, BitVec.and_allOnes]
  rfl

theorem and_highHalf (x : Word32) : x &&& 0xFFFF0000 = wordOf [lane x 3, lane x 2, 0, 0] := by
  have mask : (0xFFFF0000 : Word32) = wordOf [BitVec.allOnes 8, BitVec.allOnes 8, 0#8, 0#8] := by decide
  rw [mask, and_wordOf, BitVec.and_allOnes, BitVec.and_allOnes, BitVec.and_zero, BitVec.and_zero]
  rfl

/-! ## The lanes of a permuted word -/

section
variable (x : Word32)

@[simp] theorem lane_perm16L_three : lane (perm16L x) 3 = lane x 1 := lane_wordOf _ (by decide)
@[simp] theorem lane_perm16L_two : lane (perm16L x) 2 = lane x 0 := lane_wordOf _ (by decide)
@[simp] theorem lane_perm16L_one : lane (perm16L x) 1 = 0 := lane_wordOf _ (by decide)
@[simp] theorem lane_perm16L_zero : lane (perm16L x) 0 = 0 := lane_wordOf _ (by decide)

@[simp] theorem lane_perm16R_three : lane (perm16R x) 3 = 0 := lane_wordOf _ (by decide)
@[simp] theorem lane_perm16R_two : lane (perm16R x) 2 = 0 := lane_wordOf _ (by decide)
@[simp] theorem lane_perm16R_one : lane (perm16R x) 1 = lane x 3 := lane_wordOf _ (by decide)
@[simp] theorem lane_perm16R_zero : lane (perm16R x) 0 = lane x 2 := lane_wordOf _ (by decide)

end

/-! ## Two permutes -/

/-- The two bytes that a permute keeps go to the half that the next one discards. -/
theorem perm16_perm16 (dir : Dir) (x : Word32) : perm16 dir (perm16 dir x) = 0 := by
  cases dir with
  | left =>
    calc perm16L (perm16L x) = wordOf [0, 0, 0, 0] := by rw [perm16L, lane_perm16L_one, lane_perm16L_zero]
      _ = 0 := rfl
  | right =>
    calc perm16R (perm16R x) = wordOf [0, 0, 0, 0] := by rw [perm16R, lane_perm16R_three, lane_perm16R_two]
      _ = 0 := rfl

theorem perm16_zero (dir : Dir) : perm16 dir 0 = 0 := by
  rw [perm16_eq_shift32, shift32_zero_value]

theorem perm16R_perm16L (x : Word32) : perm16R (perm16L x) = x &&& 0x0000FFFF := by
  rw [perm16R, lane_perm16L_three, lane_perm16L_two, and_lowHalf]

theorem perm16L_perm16R (x : Word32) : perm16L (perm16R x) = x &&& 0xFFFF0000 := by
  rw [perm16L, lane_perm16R_one, lane_perm16R_zero, and_highHalf]

/-- Settles O11: the lanes are those of the byte list that `PERM16L` makes, and its number is that of the shift by 16. -/
theorem leftPermuteIsShiftBySixteen : Obligations.LeftPermuteIsShiftBySixteen :=
  ⟨fun x => ⟨lane_perm16L_three x, lane_perm16L_two x, lane_perm16L_one x, lane_perm16L_zero x,
    perm16_eq_shift32 .left x⟩, by decide⟩

/-- Settles O12: the lanes are those of the byte list that `PERM16R` makes, and its number is that of the shift by 16. -/
theorem rightPermuteIsShiftBySixteen : Obligations.RightPermuteIsShiftBySixteen :=
  ⟨fun x => ⟨lane_perm16R_three x, lane_perm16R_two x, lane_perm16R_one x, lane_perm16R_zero x,
    perm16_eq_shift32 .right x⟩, by decide⟩

/-- Settles O13: by where each byte lane goes in two permutes. -/
theorem permuteLaws : Obligations.PermuteLaws := fun x =>
  ⟨fun dir => ⟨perm16_perm16 dir x, perm16_zero dir⟩, perm16R_perm16L x, perm16L_perm16R x⟩

end Sys2Proof.Machine
end

section
/-! PROOFS. The final selection against the contract (44_decomposition_dispatch.md R205), and a shift in two parts (R207). -/

namespace Sys2Proof.Machine

/-- Settles O14: `SEL` gives a fixed family only at its own distance, where its datapath is the contract function. -/
theorem selectionComputesTheContract : Obligations.SelectionComputesTheContract := fun _ _ _ x => apply_eq_shift32 x

/-- A shift may be done in two parts: the bits that the first part drops are dropped by the whole as well. -/
theorem shift32_shift32 (dir : Dir) (v : Word32) (a b : Nat) :
    shift32 dir (shift32 dir v a) b = shift32 dir v (a + b) := by
  apply BitVec.eq_of_toNat_eq
  cases dir with
  | left => rw [shift32, shift32, shift32, toNat_shl32, toNat_shl32, toNat_shl32, Nat.mod_mul_mod, mul_assoc, pow_add]
  | right => rw [shift32, shift32, shift32, toNat_shr32, toNat_shr32, toNat_shr32, Nat.div_div_eq_div_mul, pow_add]

/-- A permute takes 16 off the distance that is left (R207). -/
theorem shift32_perm16 (dir : Dir) (v : Word32) {d : Nat} (h : 16 ≤ d) :
    shift32 dir (perm16 dir v) (d - 16) = shift32 dir v d := by
  rw [perm16_eq_shift32, shift32_shift32, Nat.add_sub_cancel' h]

end Sys2Proof.Machine
end

section
/-! PROOFS. A whole request (44_decomposition_dispatch.md R203, R204, R208, R210): its ACCEPT, then STEP after STEP until
the response, each with the step count and the value that the contract gives. -/

namespace Sys2Proof.Machine

/-! ## The number of STEPs -/

theorem sixteen_le_of_decomposes {p : Params} {kf : BitVec 1} {dir : Dir} {d : Nat}
    (h : decomposes p kf dir d = true) : 16 ≤ d := by
  unfold decomposes at h
  split_ifs at h
  · exact (sixteen_lt_of_sel_decomp (beq_iff_eq.mp h)).le
  · exact of_decide_eq_true h

/-- A permute is one STEP and leaves the STEPs of the distance without 16 (R208). -/
theorem stepsOf_of_decomposes {p : Params} {kf : BitVec 1} {dir : Dir} {d : Nat}
    (h : p.opt = 1 ∧ decomposes p kf dir d = true) : stepsOf p kf dir d = stepsOf p kf dir (d - 16) + 1 := by
  obtain ⟨opt, dec⟩ := h
  have above := sixteen_le_of_decomposes dec
  have chain : d / 16 = (d - 16) / 16 + 1 := by omega
  by_cases k : kf = 1
  · have selected : sel p dir d = .decomp := by simpa [decomposes, k] using dec
    simp only [stepsOf, if_pos k, chain, kStepsWithin, if_pos (And.intro opt selected)]
  · simp only [stepsOf, if_neg k, if_pos opt, chain]

/-- Without a permute the request takes its one final STEP (R208). -/
theorem stepsOf_of_last {p : Params} {kf : BitVec 1} {dir : Dir} {d : Nat}
    (last : ¬(p.opt = 1 ∧ decomposes p kf dir d = true)) : stepsOf p kf dir d = 1 := by
  unfold stepsOf
  split_ifs with k opt
  · have noDecomp : ¬(p.opt = 1 ∧ sel p dir d = .decomp) := by simpa [decomposes, k] using last
    cases d / 16 with
    | zero => rfl
    | succ fuel => rw [kStepsWithin, if_neg noDecomp]
  · rw [decomposes, if_neg k] at last
    have below : d < 16 := by simpa [opt] using last
    rw [Nat.div_eq_of_lt below]
  · rfl

/-! ## A STEP of a request in flight -/

theorem toNat_sub_sixteen {r : Dist} (h : 16 ≤ r.toNat) : (r - 16).toNat = r.toNat - 16 :=
  BitVec.toNat_sub_of_le (BitVec.le_def.mpr h)

/-- A STEP of a request with a transform permutes where it decomposes, and otherwise responds with the exact shift by the
distance left: neither unreachable arm is met (R204, R205). -/
theorem stepEvent_of_transform {s : State} (elaborated : elaborates s.params = true) (transform : inFlightHasTransform s) :
    stepEvent s.kf (dirOfBit s.dirl) s.r s =
      if s.params.opt = 1 ∧ decomposes s.params s.kf (dirOfBit s.dirl) s.r.toNat = true then
        .next (s.permuted (dirOfBit s.dirl) s.r)
      else .next (s.responding (shift32 (dirOfBit s.dirl) s.w s.r.toNat)) := by
  split_ifs with dec
  · exact stepEvent_of_decomposes dec
  · have notDecomp : sel s.params (dirOfBit s.dirl) s.r.toNat ≠ .decomp := fun decomp =>
      dec ⟨opt_eq_one_of_sel elaborated decomp (by simp), decomposes_of_sel_decomp s.kf decomp⟩
    have notNone := sel_ne_none_of_inFlightHasTransform elaborated transform dec
    exact stepEvent_of_apply dec (apply_eq_shift32 s.w notDecomp notNone)

/-- The step of a good state in `RUN` with no reset requested is that STEP, and then the host's move. -/
theorem step_of_run {s : State} (good : Good s) (noRst : s.ports.rst = false) (run : s.ctl = ctlRun) :
    step s = .next (if s.params.opt = 1 ∧ decomposes s.params s.kf (dirOfBit s.dirl) s.r.toNat = true then
        s.permuted (dirOfBit s.dirl) s.r
      else s.responding (shift32 (dirOfBit s.dirl) s.w s.r.toNat)).hostDrives := by
  rw [step_eq s good.elaborated, blockEvent_eq_stepEvent good.reset noRst run,
    stepEvent_of_transform good.elaborated (good.controller.runHasTransform run)]
  split_ifs <;> rfl

/-- The host's move is one that was coming, so no reset comes by it. -/
theorem noReset_hostDrives {s : State} (h : NoReset s) : NoReset s.hostDrives := by
  obtain ⟨now, coming⟩ := h
  refine ⟨?_, fun p mem => coming p (s.hostDrives_moves_subset p mem)⟩
  obtain same | next := s.hostDrives_ports
  · rw [same, now]
  · exact coming _ next

/-! ## From `RUN` to the response -/

/-- From a block that holds a request, the response `answer` stands after exactly `n` steps: until then the block is in
`RUN`, and the host has received nothing new. -/
def RespondsIn (n : Nat) (s : State) (answer : Response) : Prop :=
  (∃ t, runSteps n s = .next t ∧ t.ctl = ctlResp ∧ t.w = answer.value ∧ t.errl = answer.err ∧ t.taken = s.taken) ∧
    ∀ k < n, ∃ u, runSteps k s = .next u ∧ u.ctl = ctlRun

theorem runSteps_succ {s t : State} (h : step s = .next t) (k : Nat) : runSteps (k + 1) s = runSteps k t := by
  rw [runSteps, h]

theorem respondsIn_zero {s : State} (resp : s.ctl = ctlResp) : RespondsIn 0 s { value := s.w, err := s.errl } :=
  ⟨⟨s, rfl, resp, rfl, rfl, rfl⟩, fun _ h => absurd h (Nat.not_lt_zero _)⟩

theorem respondsIn_succ {n : Nat} {s t : State} {answer : Response} (run : s.ctl = ctlRun) (h : step s = .next t)
    (taken : t.taken = s.taken) (rest : RespondsIn n t answer) : RespondsIn (n + 1) s answer := by
  obtain ⟨⟨u, reached, resp, value, err, recorded⟩, before⟩ := rest
  refine ⟨⟨u, (runSteps_succ h n).trans reached, resp, value, err, recorded.trans taken⟩, fun k below => ?_⟩
  cases k with
  | zero => exact ⟨s, rfl, run⟩
  | succ k =>
    rw [runSteps_succ h]
    exact before k (Nat.lt_of_succ_lt_succ below)

/-- A request in flight is answered after its own number of STEPs with the exact shift by the distance left, by induction
on that distance (R204, R208, R210). -/
theorem respondsIn_of_run {s : State} (good : Good s) (noReset : NoReset s) (run : s.ctl = ctlRun) :
    RespondsIn (stepsOf s.params s.kf (dirOfBit s.dirl) s.r.toNat) s
      { value := shift32 (dirOfBit s.dirl) s.w s.r.toNat, err := errOk } := by
  induction left : s.r.toNat using Nat.strongRecOn generalizing s with
  | ind d ih =>
    subst left
    have event := step_of_run good noReset.1 run
    by_cases dec : s.params.opt = 1 ∧ decomposes s.params s.kf (dirOfBit s.dirl) s.r.toNat = true
    · rw [if_pos dec] at event
      have above := sixteen_le_of_decomposes dec.2
      have distance : (s.permuted (dirOfBit s.dirl) s.r).hostDrives.r.toNat = s.r.toNat - 16 := by
        rw [State.hostDrives_r, State.permuted_r, toNat_sub_sixteen above]
      have rest := ih _ (by omega) (everyStepKeepsGood s _ good event) (noReset_hostDrives noReset) (by simpa using run)
        distance
      rw [stepsOf_of_decomposes dec, ← shift32_perm16 _ _ above]
      exact respondsIn_succ run event (by simp) (by simpa using rest)
    · rw [if_neg dec] at event
      have answered := respondsIn_zero
        (s := (s.responding (shift32 (dirOfBit s.dirl) s.w s.r.toNat)).hostDrives) (by simp)
      rw [stepsOf_of_last dec]
      exact respondsIn_succ run event (by simp) (by simpa [good.controller.runHasNoError run] using answered)

/-! ## From the offer to the response -/

/-- After the ACCEPT of an offered request its exact response stands after its own number of STEPs, none for an error word
(R203, R208, R210; 60_exceptions.md R232). -/
theorem respondsIn_after_accept {s : State} (offers : Offers s) :
    ∃ t, step s = .next t ∧ t.taken = s.taken ∧
      RespondsIn (stepsForRequest s.params s.ports.reqCmd s.ports.reqDist) t
        (responseOf s.params s.ports.reqCmd s.ports.reqValue s.ports.reqDist) := by
  obtain ⟨good, noReset, idle, valid⟩ := offers
  have event := step_eq_accept good.elaborated good.reset noReset.1 idle valid
  refine ⟨_, event, by simp, ?_⟩
  obtain ⟨ok, legal⟩ | ⟨error, refused⟩ := accept_cases s.ports.reqCmd s.ports.reqValue s.ports.reqDist s
  · rw [legal] at event ⊢
    have answered := respondsIn_of_run (everyStepKeepsGood s _ good event) (noReset_hostDrives noReset) (by simp)
    simpa [stepsForRequest, responseOf, ok] using answered
  · rw [refused]
    have answered := respondsIn_zero
      (s := (s.errorResponse s.ports.reqCmd (decodeErr s.params s.ports.reqCmd)).hostDrives) (by simp)
    rw [stepsForRequest, responseOf, if_pos error, if_pos error]
    simpa using answered

/-- The response ports after an offered request's ACCEPT and STEPs (10_state.md R43). -/
theorem exists_response {s : State} (offers : Offers s) :
    ∃ t, runSteps (stepsForRequest s.params s.ports.reqCmd s.ports.reqDist + 1) s = .next t ∧ t.ctl = ctlResp ∧
      t.rspValue = some (responseOf s.params s.ports.reqCmd s.ports.reqValue s.ports.reqDist).value ∧
      t.rspErr = some (responseOf s.params s.ports.reqCmd s.ports.reqValue s.ports.reqDist).err := by
  obtain ⟨t, event, -, ⟨u, reached, resp, value, err, -⟩, -⟩ := respondsIn_after_accept offers
  refine ⟨u, (runSteps_succ event _).trans reached, resp, ?_, ?_⟩
  · rw [State.rspValue, if_pos resp, value]
  · rw [State.rspErr, if_pos resp, err]

/-! ## Two instances -/

/-- The code of a word depends on the parameters only through `RTA` and `RESOLVE` at the distances of a field
(60_exceptions.md R231). -/
theorem decodeErr_congr {p q : Params} (rta : p.rta = q.rta)
    (sameResolve : ∀ (dir : Dir) (d : Nat), d ≤ 255 → resolve p dir d = resolve q dir d) (cmd : Cmd) :
    decodeErr p cmd = decodeErr q cmd := by
  have range : (distField cmd).toNat ≤ 255 := Nat.le_of_lt_succ (distField cmd).isLt
  rw [decodeErr, decodeErr, rta, sameResolve _ _ range]

/-- Settles O55: both instances resolve every distance, so they give a word the same code, and with it the same exact
response. -/
theorem optimizedAndPlainInstancesAgree : Obligations.OptimizedAndPlainInstancesAgree := by
  intro a b offersA offersB plain _ rta resolves cmd value dist
  have code : decodeErr a.params b.ports.reqCmd = decodeErr b.params b.ports.reqCmd :=
    decodeErr_congr rta (fun dir d range => (resolve_of_opt_zero plain dir d).trans (resolves dir d range).symm) _
  have response : responseOf a.params a.ports.reqCmd a.ports.reqValue a.ports.reqDist =
      responseOf b.params b.ports.reqCmd b.ports.reqValue b.ports.reqDist := by
    rw [cmd, value, dist, responseOf, responseOf, code]
  obtain ⟨t, reachedA, respA, valueA, errA⟩ := exists_response offersA
  obtain ⟨u, reachedB, respB, valueB, errB⟩ := exists_response offersB
  refine ⟨t, u, reachedA, reachedB, respA, respB, ?_, ?_⟩
  · rw [valueA, valueB, response]
  · rw [errA, errB, response]

end Sys2Proof.Machine
end

section
/-! PROOFS. What a command does in each phase (44_decomposition_dispatch.md R201 to R206; 60_exceptions.md R232, R233;
70_reset_and_hazards.md R269): ACCEPT of its word in `IDLE`, a run-time STEP in `RUN`, the hold or TAKE in `RESP`, and the
faults of the unreachable arms. -/

namespace Sys2Proof.Machine

/-! ## `IDLE` -/

theorem latch_kWord (dir : Dir) (d : Dist) (value : Word32) (dist : Dist) (s : State) :
    s.latch (cmdWord 0 0 (bitOfDir dir) d) value dist =
      { s with dirl := bitOfDir dir, kf := 1, w := value, r := d, errl := errOk, ctl := ctlRun } := by
  simp [State.latch, formBit, requestDist]

theorem latch_rWord (dir : Dir) (value : Word32) (dist : Dist) (s : State) :
    s.latch (cmdWord 0 1 (bitOfDir dir) 0) value dist =
      { s with dirl := bitOfDir dir, kf := 0, w := value, r := dist, errl := errOk, ctl := ctlRun } := by
  simp [State.latch, formBit, requestDist]

theorem errorResponse_rWord (dir : Dir) (e : BitVec 2) (s : State) :
    s.errorResponse (cmdWord 0 1 (bitOfDir dir) 0) e =
      { s with dirl := bitOfDir dir, kf := 0, w := 0, r := 0, errl := e, ctl := ctlResp } := by
  simp [State.errorResponse, formBit]

/-- Settles O19: the K form's word has code OK where its distance resolves, so its ACCEPT latches the fields of the word. -/
theorem kFormAcceptLatches : Obligations.KFormAcceptLatches := by
  intro dir d i s form idle resolves
  have ok : decodeErr s.params (cmdWord 0 0 (bitOfDir dir) d) = errOk := by rw [decodeErr_k, if_pos resolves]
  rw [(isKForm_iff dir d i).mp form, exec_kInstr, kRequest_idle dir d s idle, accept_legal _ _ _ s ok, latch_kWord]

theorem rRequest_latches (dir : Dir) {s : State} (idle : s.ctl = ctlIdle) (rta : s.params.rta ≠ 0) :
    rRequest dir s = .next { s with
      dirl := bitOfDir dir, kf := 0, w := s.ports.reqValue, r := s.ports.reqDist, errl := errOk, ctl := ctlRun } := by
  have ok : decodeErr s.params (cmdWord 0 1 (bitOfDir dir) 0) = errOk := by rw [decodeErr_r, if_neg rta]
  rw [rRequest_idle dir s idle, accept_legal _ _ _ s ok, latch_rWord]

theorem rRequest_noRuntime (dir : Dir) {s : State} (idle : s.ctl = ctlIdle) (rta : s.params.rta = 0) :
    rRequest dir s = .next { s with
      dirl := bitOfDir dir, kf := 0, w := 0, r := 0, errl := errNoRuntime, ctl := ctlResp } := by
  have code : decodeErr s.params (cmdWord 0 1 (bitOfDir dir) 0) = errNoRuntime := by rw [decodeErr_r, if_pos rta]
  have error : decodeErr s.params (cmdWord 0 1 (bitOfDir dir) 0) ≠ errOk := by rw [code]; decide
  rw [rRequest_idle dir s idle, accept_error _ _ _ s error, code, errorResponse_rWord]

/-- Settles O21: the R form's word has code OK with the run-time dispatcher and NO_RUNTIME without it. -/
theorem runTimeAccept : Obligations.RunTimeAccept := fun _ idle =>
  ⟨fun rta => ⟨rRequest_latches .left idle rta, rRequest_latches .right idle rta⟩,
    fun rta => ⟨rRequest_noRuntime .left idle rta, rRequest_noRuntime .right idle rta⟩⟩

/-! ## `RUN` -/

theorem decomposes_rForm (p : Params) (dir : Dir) (d : Nat) : decomposes p 0 dir d = true ↔ 16 ≤ d := by
  simp [decomposes]

/-- With `OPT` = 1 an R form permutes while 16 or more is left (R201, R202). -/
theorem rRequest_permutes (dir : Dir) {s : State} (run : s.ctl = ctlRun) (optimized : s.params.opt = 1)
    (above : 16 ≤ s.r.toNat) : rRequest dir s = .next { s with w := shift32 dir s.w 16, r := s.r - 16 } := by
  have dec := (decomposes_rForm s.params dir s.r.toNat).mpr above
  rw [rRequest_run dir s run, stepEvent_of_decomposes ⟨optimized, dec⟩, State.permuted, perm16_eq_shift32]

/-- With `OPT` = 0, or below 16 where `SEL` gives a datapath, an R form responds with the exact shift (R193, R201, R202). -/
theorem rRequest_responds (dir : Dir) {s : State} (run : s.ctl = ctlRun)
    (selects : s.params.opt = 0 ∨ (s.params.opt = 1 ∧ s.r.toNat < 16 ∧ sel s.params dir s.r.toNat ≠ .none)) :
    rRequest dir s = .next (s.responding (shift32 dir s.w s.r.toNat)) := by
  have last : ¬(s.params.opt = 1 ∧ decomposes s.params 0 dir s.r.toNat = true) := by
    rw [decomposes_rForm]; omega
  have datapath : sel s.params dir s.r.toNat ≠ .decomp ∧ sel s.params dir s.r.toNat ≠ .none := by
    obtain plain | ⟨-, below, notNone⟩ := selects
    · simp [sel_of_opt_zero dir _ plain]
    · exact ⟨fun decomp => (sixteen_lt_of_sel_decomp decomp).not_gt below, notNone⟩
  rw [rRequest_run dir s run, stepEvent_of_apply last (apply_eq_shift32 s.w datapath.1 datapath.2)]

/-- Settles O34: both R forms are `rRequest` of their direction, which permutes or responds. -/
theorem runTimeStep : Obligations.RunTimeStep := fun _ run =>
  ⟨fun optimized above => ⟨rRequest_permutes .left run optimized above, rRequest_permutes .right run optimized above⟩,
    rRequest_responds .left run, rRequest_responds .right run⟩

/-! ## The unreachable arms -/

/-- The NONE arm is met where nothing decomposes and `SEL` gives NONE (R205). -/
theorem stepEvent_of_sel_none {kf : BitVec 1} {dir : Dir} {r : Dist} {s : State}
    (last : decomposes s.params kf dir r.toNat = false) (noArm : sel s.params dir r.toNat = .none) :
    stepEvent kf dir r s = .fault .muxNone := by
  simp [stepEvent, last, apply, noArm]

theorem requestWith_illegalPhase (cmd : Cmd) (kf : BitVec 1) (dir : Dir) (r : Dist) {s : State} (h : s.ctl = 3) :
    requestWith cmd kf dir r s = .fault .illegalPhase := by
  simp [requestWith, h]

theorem requestWith_resp (cmd : Cmd) (kf : BitVec 1) (dir : Dir) (r : Dist) {s : State} (h : s.ctl = ctlResp) :
    requestWith cmd kf dir r s = .next (takeOrHold s) := by
  simp [requestWith, h]

/-- Settles O35: a K form decomposes only where `SEL` gives DECOMP and an R form only from 16 on, so both meet the NONE
arm; and no phase of a request is 3. -/
theorem selectionWithoutTransformFaults : Obligations.SelectionWithoutTransformFaults := by
  refine ⟨fun dir d i s form run noArm => ?kForm, fun dir s run below noArm => ?rForm, fun i s illegal => ?phase⟩
  case kForm =>
    rw [(isKForm_iff dir d i).mp form, exec_kInstr, kRequest_run dir d s run]
    exact stepEvent_of_sel_none (by simp [decomposes, noArm]) noArm
  case rForm =>
    rw [exec_rInstr, rRequest_run dir s run]
    exact stepEvent_of_sel_none (by simpa [decomposes] using below) noArm
  case phase =>
    obtain ⟨cmd, kf, dir, r, e⟩ := exec_eq_requestWith i s
    rw [e, requestWith_illegalPhase cmd kf dir r illegal]

/-! ## `RESP` -/

theorem takeOrHold_of_ready {s : State} (ready : s.ports.rspReady = true) : takeOrHold s = s.handOver := by
  rw [takeOrHold, if_pos ready]

theorem takeOrHold_of_not_ready {s : State} (notReady : s.ports.rspReady = false) : takeOrHold s = s := by
  simp [takeOrHold, notReady]

/-- Settles O36: in `RESP` every command is TAKE or the wait for it, as `rsp_ready` says. -/
theorem responseIsHeldOrTaken : Obligations.ResponseIsHeldOrTaken := by
  intro i s resp
  obtain ⟨cmd, kf, dir, r, e⟩ := exec_eq_requestWith i s
  rw [e, requestWith_resp cmd kf dir r resp]
  exact ⟨fun ready => congrArg _ (takeOrHold_of_ready ready), fun notReady => congrArg _ (takeOrHold_of_not_ready notReady)⟩

end Sys2Proof.Machine
end

section
/-! PROOFS. The step and the event of each phase (10_state.md R36, R37, R43; 44_decomposition_dispatch.md R203 to R206;
60_exceptions.md R236, R239). -/

namespace Sys2Proof.Machine

section
variable {s : State} (reset : s.everReset = true) (noRst : s.ports.rst = false)
include reset noRst

theorem blockEvent_idle (idle : s.ctl = ctlIdle) : blockEvent s = idleEvent s := by
  simp [blockEvent, reset, noRst, idle]

theorem blockEvent_run (run : s.ctl = ctlRun) : blockEvent s = exec (inFlight s) s := by
  simp [blockEvent, reset, noRst, run]

theorem blockEvent_resp (resp : s.ctl = ctlResp) : blockEvent s = .next (takeOrHold s) := by
  simp [blockEvent, reset, noRst, resp]

end

theorem idleEvent_of_decode {s : State} {i : Instr} (valid : s.ports.reqValid = true)
    (decoded : decode s.ports.reqCmd = .command i) : idleEvent s = exec i s := by
  simp [idleEvent, valid, decoded]

/-- Settles O38: the event of `IDLE` with a request offered is its command's. -/
theorem stepRunsTheOfferedCommand : Obligations.StepRunsTheOfferedCommand := by
  intro s i elaborated reset noRst idle valid decoded
  rw [step_eq s elaborated, blockEvent_idle reset noRst idle, idleEvent_of_decode valid decoded]

theorem inFlight_kForm {s : State} (k : s.kf = 1) : inFlight s = kInstr (dirOfBit s.dirl) s.r := by
  rw [inFlight, if_pos k]

theorem inFlight_rForm {s : State} (r : s.kf = 0) : inFlight s = rInstr (dirOfBit s.dirl) := by
  simp [inFlight, r]

/-- Settles O39: the event of `RUN` is that of the command in flight, which `KF` makes a K form or an R form. -/
theorem stepRunsTheCommandInFlight : Obligations.StepRunsTheCommandInFlight := by
  intro s elaborated reset noRst run
  have event : step s = thenHost (exec (inFlight s) s) := by rw [step_eq s elaborated, blockEvent_run reset noRst run]
  refine ⟨fun k => ⟨_, isKForm_kInstr (dirOfBit s.dirl) s.r, ?kForm⟩, fun r left => ?left, fun r right => ?right⟩
  case kForm => rw [event, inFlight_kForm k]
  case left => rw [event, inFlight_rForm r, left]; rfl
  case right => rw [event, inFlight_rForm r, right]; rfl

theorem step_eq_takeOrHold {s : State} (elaborated : elaborates s.params = true) (reset : s.everReset = true)
    (noRst : s.ports.rst = false) (resp : s.ctl = ctlResp) : step s = .next (takeOrHold s).hostDrives := by
  rw [step_eq s elaborated, blockEvent_resp reset noRst resp, thenHost]

/-! The response ports (R43). -/

theorem rspValue_of_resp {s : State} (resp : s.ctl = ctlResp) : s.rspValue = some s.w := by rw [State.rspValue, if_pos resp]

theorem rspErr_of_resp {s : State} (resp : s.ctl = ctlResp) : s.rspErr = some s.errl := by rw [State.rspErr, if_pos resp]

theorem rspValue_of_not_resp {s : State} (other : s.ctl ≠ ctlResp) : s.rspValue = none := by rw [State.rspValue, if_neg other]

theorem rspErr_of_not_resp {s : State} (other : s.ctl ≠ ctlResp) : s.rspErr = none := by rw [State.rspErr, if_neg other]

/-- Settles O44: the step is TAKE, which hands over what the response ports show and writes only the phase and the record. -/
theorem takeGivesTheResponse : Obligations.TakeGivesTheResponse := by
  intro s elaborated reset noRst resp ready
  have event : step s = .next s.handOver.hostDrives := by
    rw [step_eq_takeOrHold elaborated reset noRst resp, takeOrHold_of_ready ready]
  have idle : s.handOver.hostDrives.ctl = ctlIdle := by simp
  have quiet : s.handOver.hostDrives.ctl ≠ ctlResp := by rw [idle]; decide
  exact ⟨_, { value := s.w, err := s.errl }, event, rspValue_of_resp resp, rspErr_of_resp resp, by simp, idle, by simp,
    by simp, by simp, by simp, by simp, rspValue_of_not_resp quiet, rspErr_of_not_resp quiet, by simp⟩

theorem ctl_cases {c : BitVec 2} (legal : c ≠ 3) : c = ctlIdle ∨ c = ctlRun ∨ c = ctlResp := by
  revert c; decide

theorem blockEvent_reset {s : State} (legal : s.ctl ≠ 3) (rst : s.ports.rst = true) : blockEvent s = .next s.resetEvent := by
  rw [blockEvent, if_neg fun illegal => legal illegal.2, if_pos rst]

/-- A good state has an event in every legal phase: in `RUN` because the request in flight has a transform (R205, R236). -/
theorem exists_step_next {s : State} (good : Good s) : ∃ t, step s = .next t := by
  have ⟨elaborated, reset, inv⟩ := good
  cases rst : s.ports.rst with
  | true => exact ⟨_, by rw [step_eq s elaborated, blockEvent_reset inv.legalPhase rst, thenHost]⟩
  | false =>
    obtain idle | run | resp := ctl_cases inv.legalPhase
    · cases valid : s.ports.reqValid with
      | true => exact ⟨_, step_eq_accept elaborated reset rst idle valid⟩
      | false =>
        have event : blockEvent s = .next s := by rw [blockEvent_idle reset rst idle, idleEvent_eq s idle]; simp [valid]
        exact ⟨_, by rw [step_eq s elaborated, event, thenHost]⟩
    · exact ⟨_, step_of_run good rst run⟩
    · exact ⟨_, step_eq_takeOrHold elaborated reset rst resp⟩

/-- Settles O49: RESET is always enabled on request, and otherwise each legal phase has its event. -/
theorem goodStatesNeverStop : Obligations.GoodStatesNeverStop := fun _ good => exists_step_next good

end Sys2Proof.Machine
end

section
/-! PROOFS. The decomposition invariant (44_decomposition_dispatch.md R207, R209): ACCEPT establishes it, a permute moves 16
from the distance left to the distance applied, and the final STEP applies the rest. -/

namespace Sys2Proof.Machine

/-- Settles O15: a shift in two parts, of 16 and the rest. -/
theorem decompositionLaw : Obligations.DecompositionLaw := by
  intro dir v d above
  rw [shift32_shift32, Nat.add_sub_cancel' above]

theorem decompositionInv_hostDrives {v : Word32} {d : Dist} {s : State} (h : DecompositionInv v d s) :
    DecompositionInv v d s.hostDrives := by
  simpa [DecompositionInv] using h

theorem decompositionInv_latch (cmd : Cmd) (v : Word32) (dist : Dist) (s : State) :
    DecompositionInv v (requestDist cmd dist) (s.latch cmd v dist) := by
  simp [DecompositionInv]

section
variable {v : Word32} {d : Dist} {s : State} (inv : DecompositionInv v d s)
include inv

theorem decompositionInv_permuted (above : 16 ≤ s.r.toNat) :
    DecompositionInv v d (s.permuted (dirOfBit s.dirl) s.r) := by
  obtain ⟨noError, atMost, partly⟩ := inv
  have left : (s.r - 16).toNat = s.r.toNat - 16 := toNat_sub_sixteen above
  have applied : d.toNat - (s.r.toNat - 16) = d.toNat - s.r.toNat + 16 := by omega
  refine ⟨noError, ?_, ?_⟩
  · rw [State.permuted_r, left]; omega
  · rw [State.permuted_w, State.permuted_r, State.permuted_dirl, left, applied, ← shift32_shift32, ← partly,
      perm16_eq_shift32]

/-- The final STEP makes the shift whole. -/
theorem shift32_of_decompositionInv : shift32 (dirOfBit s.dirl) s.w s.r.toNat = shift32 (dirOfBit s.dirl) v d.toNat := by
  obtain ⟨-, atMost, partly⟩ := inv
  rw [partly, shift32_shift32, Nat.sub_add_cancel atMost]

theorem decompositionInv_responding :
    DecompositionInv v d (s.responding (shift32 (dirOfBit s.dirl) s.w s.r.toNat)) := by
  have ⟨noError, _, _⟩ := inv
  exact ⟨noError, Nat.zero_le _, by simp [shift32_of_decompositionInv inv]⟩

end

/-- Settles O50: by ACCEPT of a legal word, and by the two ways a STEP of a good state ends. -/
theorem decompositionInvariantHolds : Obligations.DecompositionInvariantHolds := by
  refine ⟨fun s t good noRst idle valid ok h => ?accepted, fun v d s t good noRst run inv h => ?stepped⟩
  case accepted =>
    rw [step_eq_accept good.elaborated good.reset noRst idle valid, accept_legal _ _ _ s ok] at h
    cases h
    exact ⟨by simp, by simp, decompositionInv_hostDrives (decompositionInv_latch _ _ _ s)⟩
  case stepped =>
    rw [step_of_run good noRst run] at h
    split_ifs at h with dec <;> cases h
    · have above := sixteen_le_of_decomposes dec.2
      exact ⟨decompositionInv_hostDrives (decompositionInv_permuted inv above), by simp, by simp [run], by simp [run]⟩
    · exact ⟨decompositionInv_hostDrives (decompositionInv_responding inv), by simp, by simp,
        by simp [shift32_of_decompositionInv inv]⟩

end Sys2Proof.Machine
end

section
/-! PROOFS. Offered requests and their responses (44_decomposition_dispatch.md R208, R210, R211, R213). -/

namespace Sys2Proof.Machine

/-- Settles O51: one step for ACCEPT, and from there the request's own number of STEPs. -/
theorem requestGetsItsExactResponse : Obligations.RequestGetsItsExactResponse := by
  intro s offers
  obtain ⟨t, event, taken, ⟨u, reached, resp, value, err, recorded⟩, before⟩ := respondsIn_after_accept offers
  refine ⟨⟨u, (runSteps_succ event _).trans reached, resp, ?_, ?_, recorded.trans taken⟩, fun k below => ?_⟩
  · rw [rspValue_of_resp resp, value]
  · rw [rspErr_of_resp resp, err]
  · rw [runSteps_succ event]
    exact before k below

theorem responseOf_legal {p : Params} {cmd : Cmd} (ok : decodeErr p cmd = errOk) (value : Word32) (dist : Dist) :
    responseOf p cmd value dist =
      { value := shift32 (dirOfBit (dirField cmd)) value (requestDist cmd dist).toNat, err := errOk } := by
  simp [responseOf, ok]

theorem stepsForRequest_legal {p : Params} {cmd : Cmd} (ok : decodeErr p cmd = errOk) (dist : Dist) :
    stepsForRequest p cmd dist = stepsOf p (formBit cmd) (dirOfBit (dirField cmd)) (requestDist cmd dist).toNat := by
  simp [stepsForRequest, ok]

/-- A legal request of form `kf`, direction `dir` and distance `d` reaches `RESP` after the STEPs of that form, with the
exact shift and code OK. -/
theorem exists_legal_response {s : State} (offers : Offers s) (ok : decodeErr s.params s.ports.reqCmd = errOk)
    {kf : BitVec 1} {dir : Dir} {d : Dist} (form : formBit s.ports.reqCmd = kf)
    (direction : dirOfBit (dirField s.ports.reqCmd) = dir) (distance : requestDist s.ports.reqCmd s.ports.reqDist = d) :
    ∃ t, runSteps (stepsOf s.params kf dir d.toNat + 1) s = .next t ∧ t.ctl = ctlResp ∧
      t.rspValue = some (shift32 dir s.ports.reqValue d.toNat) ∧ t.rspErr = some errOk := by
  have response := exists_response offers
  rwa [stepsForRequest_legal ok, responseOf_legal ok, form, direction, distance] at response

/-- Settles O54: both words are legal, and the exact shift does not read the form. -/
theorem immediateAndRunTimeFormsAgree : Obligations.ImmediateAndRunTimeFormsAgree := by
  intro a b dir d offersA offersB params rta resolves cmdA cmdB dist value
  have okA : decodeErr a.params a.ports.reqCmd = errOk := by rw [cmdA, decodeErr_k, if_pos resolves]
  have okB : decodeErr b.params b.ports.reqCmd = errOk := by rw [cmdB, decodeErr_r, if_neg (params ▸ rta)]
  obtain ⟨t, reachedA, respA, valueA, errA⟩ := exists_legal_response (kf := 1) (dir := dir) (d := d) offersA okA
    (by simp [cmdA, formBit]) (by simp [cmdA]) (by simp [cmdA, requestDist])
  obtain ⟨u, reachedB, respB, valueB, errB⟩ := exists_legal_response (kf := 0) (dir := dir) (d := d) offersB okB
    (by simp [cmdB, formBit]) (by simp [cmdB]) (by simp [cmdB, requestDist, dist])
  refine ⟨t, u, reachedA, params ▸ reachedB, respA, respB, ?_, ?_⟩
  · rw [valueA, valueB, value]
  · rw [errA, errB]

/-- Settles O56: the exact shift by 32 or more is 0. -/
theorem fullShiftOut : Obligations.FullShiftOut := by
  intro s offers ok out
  obtain ⟨t, reached, -, value, err⟩ := exists_response offers
  rw [responseOf_legal ok] at value err
  exact ⟨t, reached, value.trans (congrArg some (shift32_of_thirtyTwo_le _ _ out)), err⟩

/-! ## The counts of STEPs -/

theorem stepsOf_pos_and_le (p : Params) (kf : BitVec 1) (dir : Dir) (d : Nat) :
    1 ≤ stepsOf p kf dir d ∧ stepsOf p kf dir d ≤ d / 16 + 1 := by
  induction d using Nat.strongRecOn with
  | ind d ih =>
    by_cases dec : p.opt = 1 ∧ decomposes p kf dir d = true
    · have above := sixteen_le_of_decomposes dec.2
      have rest := ih (d - 16) (by omega)
      rw [stepsOf_of_decomposes dec]
      omega
    · rw [stepsOf_of_last dec]
      omega

theorem stepsOf_of_opt_zero {p : Params} (plain : p.opt = 0) (kf : BitVec 1) (dir : Dir) (d : Nat) :
    stepsOf p kf dir d = 1 :=
  stepsOf_of_last (by simp [plain])

theorem stepsOf_kForm_of_not_decomp {p : Params} {dir : Dir} {d : Nat} (last : sel p dir d ≠ .decomp) :
    stepsOf p 1 dir d = 1 :=
  stepsOf_of_last (by simp [decomposes, last])

section
variable {p : Params} (optimized : p.opt = 1) (dir : Dir)
include optimized

theorem stepsOf_rForm (d : Nat) : stepsOf p 0 dir d = d / 16 + 1 := by
  simp [stepsOf, optimized]

theorem stepsOf_kForm_of_decomp {d : Nat} (decomp : sel p dir d = .decomp) :
    stepsOf p 1 dir d = stepsOf p 1 dir (d - 16) + 1 :=
  stepsOf_of_decomposes ⟨optimized, decomposes_of_sel_decomp 1 decomp⟩

/-- A K form takes one STEP for each DECOMP at the head of its chain, and the last one (R208). -/
theorem stepsOf_kForm_of_chain {d k : Nat} (last : sel p dir (d - 16 * k) ≠ .decomp)
    (chain : ∀ j < k, sel p dir (d - 16 * j) = .decomp) : stepsOf p 1 dir d = k + 1 := by
  induction k generalizing d with
  | zero => exact stepsOf_kForm_of_not_decomp last
  | succ k ih =>
    have shorter (j : Nat) : d - 16 - 16 * j = d - 16 * (j + 1) := by omega
    have rest : stepsOf p 1 dir (d - 16) = k + 1 :=
      ih (by rwa [shorter]) fun j below => by rw [shorter]; exact chain (j + 1) (Nat.succ_lt_succ below)
    have first : sel p dir d = .decomp := chain 0 k.succ_pos
    rw [stepsOf_kForm_of_decomp optimized dir first, rest]

/-- Under the default sets a K form's chain stops early where it meets 16 or 24, that is, at the multiples of 8 from 16
on. -/
theorem stepsOf_kForm_of_default_sets (sets : fallbackSet p dir = [1, 2, 3, 8, 24]) (d : Nat) :
    stepsOf p 1 dir d = if 16 ≤ d ∧ d % 8 = 0 then d / 16 else d / 16 + 1 := by
  induction d using Nat.strongRecOn with
  | ind d ih =>
    by_cases decomp : 16 < d ∧ d ≠ 24
    · obtain ⟨above, other⟩ := decomp
      have outside : d ∉ fallbackSet p dir := by
        rw [sets]
        simp only [List.mem_cons, List.not_mem_nil, or_false]
        omega
      rw [stepsOf_kForm_of_decomp optimized dir (sel_decomp (by omega) dir above outside), ih (d - 16) (by omega)]
      split_ifs <;> omega
    · have last : sel p dir d ≠ .decomp := by
        intro selected
        have above := sixteen_lt_of_sel_decomp selected
        obtain rfl : d = 24 := by omega
        rw [sel_of_mem_fallbackSet (by omega) dir (by decide) (by decide) (by simp [sets])] at selected
        cases selected
      rw [stepsOf_kForm_of_not_decomp last]
      split_ifs <;> omega

end

/-- Settles O53: the bound and the counts of each form, and under the default sets the counts in closed form. -/
theorem stepCounts : Obligations.StepCounts := by
  refine ⟨fun p kf dir d range => ?bound, fun p kf dir d plain => stepsOf_of_opt_zero plain kf dir d,
    fun p dir d optimized => stepsOf_rForm optimized dir d, fun p dir d optimized range => ?sixteen,
    fun p dir d k optimized last chain => stepsOf_kForm_of_chain optimized dir last chain,
    fun p dir optimized left right => ?defaults⟩
  case bound =>
    have := stepsOf_pos_and_le p kf dir d
    omega
  case sixteen =>
    rw [stepsOf_rForm optimized]
    omega
  case defaults =>
    have sets : fallbackSet p dir = [1, 2, 3, 8, 24] := by cases dir <;> assumption
    have counts := stepsOf_kForm_of_default_sets optimized dir sets
    refine ⟨fun d range => ?_, ?_, ?_⟩
    · rw [counts]
      split_ifs <;> omega
    · rw [funext counts]
      decide
    · rw [funext (stepsOf_rForm optimized dir)]
      decide

end Sys2Proof.Machine
end

section
/-! PROOFS. The error responses and the waits (60_exceptions.md R231 to R235, R248; 70_reset_and_hazards.md R268, R269): the
words with code ILLEGAL are those that the decoder refuses, and a block with no event to take keeps its state. -/

namespace Sys2Proof.Machine

/-! ## The code ILLEGAL -/

/-- The decoder refuses the words with a reserved bit and the R forms with a distance, and no others (R74). -/
theorem decode_illegal_iff (w : Cmd) :
    (∃ why, decode w = .illegal why) ↔ rsvField w ≠ 0 ∨ (srcField w = 1 ∧ distField w ≠ 0) := by
  obtain ⟨dir, d, rfl, e⟩ | ⟨dir, rfl, e⟩ | ⟨bad, refused⟩ := decode_cases w
  · exact iff_of_false (fun ⟨_, refused⟩ => by cases e.symm.trans refused) (by simp)
  · exact iff_of_false (fun ⟨_, refused⟩ => by cases e.symm.trans refused) (by simp)
  · exact iff_of_true refused bad

/-- A word that names a command has one of the other codes: a K form OK or NO_TRANSFORM, an R form OK or NO_RUNTIME (R231,
R235). -/
theorem decodeErr_illegal_iff (p : Params) (w : Cmd) :
    decodeErr p w = errIllegal ↔ rsvField w ≠ 0 ∨ (srcField w = 1 ∧ distField w ≠ 0) := by
  obtain ⟨dir, d, rfl, -⟩ | ⟨dir, rfl, -⟩ | ⟨bad, -⟩ := decode_cases w
  · exact iff_of_false (by rw [decodeErr_k]; split_ifs <;> decide) (by simp)
  · exact iff_of_false (by rw [decodeErr_r]; split_ifs <;> decide) (by simp)
  · exact iff_of_true (decodeErr_of_illegal bad) bad

/-- Settles O5: the code and the decoder look for the same two causes. -/
theorem illegalCodeIsExactlyRefusedWords : Obligations.IllegalCodeIsExactlyRefusedWords := fun p w =>
  ⟨(decodeErr_illegal_iff p w).trans (decode_illegal_iff w).symm, decodeErr_illegal_iff p w⟩

/-! ## Error responses -/

/-- ACCEPT of a word that the decoder refuses is the error response with code ILLEGAL (R232, R235). -/
theorem accept_of_decode_illegal {cmd : Cmd} {why : DecodeRefusal} (refused : decode cmd = .illegal why) (v : Word32)
    (d : Dist) (s : State) : accept cmd v d s = s.errorResponse cmd errIllegal := by
  have code : decodeErr s.params cmd = errIllegal := decodeErr_of_illegal ((decode_illegal_iff cmd).mp ⟨why, refused⟩)
  have error : decodeErr s.params cmd ≠ errOk := by rw [code]; decide
  rw [accept_error cmd v d s error, code]

/-- Settles O40: the step is the ACCEPT of the offered word, which the decoder refuses. -/
theorem illegalWordGetsItsErrorResponse : Obligations.IllegalWordGetsItsErrorResponse := by
  intro s why elaborated reset noRst idle valid refused
  rw [step_eq_accept elaborated reset noRst idle valid, accept_of_decode_illegal refused]
  rfl

theorem errorResponse_kWord (dir : Dir) (d : Dist) (e : BitVec 2) (s : State) :
    s.errorResponse (cmdWord 0 0 (bitOfDir dir) d) e =
      { s with dirl := bitOfDir dir, kf := 1, w := 0, r := 0, errl := e, ctl := ctlResp } := by
  simp [State.errorResponse, formBit]

/-- Settles O20: the K form's word has code NO_TRANSFORM where its distance does not resolve. -/
theorem kFormWithoutTransformIsAnswered : Obligations.KFormWithoutTransformIsAnswered := by
  intro dir d i s form idle unresolved
  have code : decodeErr s.params (cmdWord 0 0 (bitOfDir dir) d) = errNoTransform := by
    rw [decodeErr_k, unresolved, if_neg Bool.false_ne_true]
  have error : decodeErr s.params (cmdWord 0 0 (bitOfDir dir) d) ≠ errOk := by rw [code]; decide
  rw [(isKForm_iff dir d i).mp form, exec_kInstr, kRequest_idle dir d s idle, accept_error _ _ _ s error, code,
    errorResponse_kWord]

/-! ## Waiting -/

/-- With nothing offered, the step of a reset block in `IDLE` is the host's move alone (R248). -/
theorem step_idle_of_not_valid {s : State} (elaborated : elaborates s.params = true) (reset : s.everReset = true)
    (noRst : s.ports.rst = false) (idle : s.ctl = ctlIdle) (nothing : s.ports.reqValid = false) :
    step s = .next s.hostDrives := by
  have event : blockEvent s = .next s := by rw [blockEvent_idle reset noRst idle, idleEvent_eq s idle]; simp [nothing]
  rw [step_eq s elaborated, event, thenHost]

/-- Settles O43: both waits leave the host's move alone, which keeps the phase and the registers behind the response ports. -/
theorem idleAndUntakenResponsesWait : Obligations.IdleAndUntakenResponsesWait := by
  intro s elaborated reset noRst
  refine ⟨step_idle_of_not_valid elaborated reset noRst, fun resp notReady => ?_⟩
  have held : step s = .next s.hostDrives := by
    rw [step_eq_takeOrHold elaborated reset noRst resp, takeOrHold_of_not_ready notReady]
  have still : s.hostDrives.ctl = ctlResp := by rw [State.hostDrives_ctl, resp]
  refine ⟨_, held, rfl, ?value, ?code⟩
  case value => rw [rspValue_of_resp still, State.hostDrives_w]
  case code => rw [rspErr_of_resp still, State.hostDrives_errl]

end Sys2Proof.Machine
end

section
/-! PROOFS. The elaboration check and the state after a reset (70_reset_and_hazards.md R260, R266; 10_state.md R44, R45). -/

namespace Sys2Proof.Machine

/-! ## The elaboration check -/

theorem fallbackValue_iff (d : Nat) : fallbackValue d = true ↔ (1 ≤ d ∧ d ≤ 15) ∨ (17 ≤ d ∧ d ≤ 255) := by
  simp [fallbackValue]

/-- R266 (c) for one direction at a time; distance 0, which the check passes over, always has the identity. -/
theorem runTimeCovered_iff (p : Params) :
    runTimeCovered p = true ↔ ∀ (dir : Dir) (r : Nat), 1 ≤ r → r ≤ 15 → sel p dir r ≠ .none := by
  refine ⟨fun covered dir r _ upTo => sel_ne_none_of_runTimeCovered covered dir (by omega), fun total => ?_⟩
  refine List.all_eq_true.mpr fun r mem => ?_
  have below : r < 16 := List.mem_range.mp mem
  rcases Nat.eq_zero_or_pos r with rfl | pos
  · rfl
  · have left := total .left r pos (by omega)
    have right := total .right r pos (by omega)
    simp [left, right]

/-- An elaboration is accepted where none of the three causes holds (R266). -/
theorem elaborates_iff (p : Params) :
    elaborates p = true ↔
      (p.opt ≤ 1 ∧ p.rta ≤ 1) ∧ (∀ d, d ∈ p.fallbackL ∨ d ∈ p.fallbackR → fallbackValue d = true) ∧
        (p.opt = 1 → p.rta = 1 → runTimeCovered p = true) := by
  have covered : (!(p.opt == 1 && p.rta == 1) || runTimeCovered p) = true ↔
      (p.opt = 1 → p.rta = 1 → runTimeCovered p = true) := by
    by_cases o : p.opt = 1 <;> by_cases r : p.rta = 1 <;> simp [o, r]
  simp only [elaborates, Bool.and_eq_true, decide_eq_true_eq, List.all_eq_true, covered, or_imp, forall_and, and_assoc]

theorem elaborates_of_default_sets {opt rta : Nat} (o : opt ≤ 1) (r : rta ≤ 1) :
    elaborates { opt := opt, rta := rta, fallbackL := [1, 2, 3, 8, 24], fallbackR := [1, 2, 3, 8, 24] } = true := by
  have values : ∀ d ∈ [1, 2, 3, 8, 24], fallbackValue d = true := by decide
  refine (elaborates_iff _).mpr ⟨⟨o, r⟩, fun d mem => values d (or_self_iff.mp mem), fun _ _ => ?_⟩
  refine (runTimeCovered_iff _).mpr fun dir d _ _ => sel_ne_none_of_default_sets ?_ d
  cases dir <;> rfl

/-- Settles O18: the three causes are the negations of what the check asks, one by one. -/
theorem elaborationCheck : Obligations.ElaborationCheck := by
  refine ⟨fun p => ?_, fun _ o _ r => elaborates_of_default_sets o r⟩
  have switches : ¬(p.opt ≤ 1 ∧ p.rta ≤ 1) ↔ (p.opt ≠ 0 ∧ p.opt ≠ 1) ∨ (p.rta ≠ 0 ∧ p.rta ≠ 1) := by omega
  have sets : ¬(∀ d, d ∈ p.fallbackL ∨ d ∈ p.fallbackR → fallbackValue d = true) ↔
      ∃ d, (d ∈ p.fallbackL ∨ d ∈ p.fallbackR) ∧ ¬((1 ≤ d ∧ d ≤ 15) ∨ (17 ≤ d ∧ d ≤ 255)) := by
    simp only [fallbackValue_iff, not_forall, exists_prop]
  have dispatcher : ¬(p.opt = 1 → p.rta = 1 → runTimeCovered p = true) ↔
      p.rta = 1 ∧ p.opt = 1 ∧ ∃ (dir : Dir) (r : Nat), 1 ≤ r ∧ r ≤ 15 ∧ sel p dir r = .none := by
    simp only [runTimeCovered_iff, not_forall, exists_prop, ne_eq, not_not]
    exact and_left_comm
  rw [← Bool.not_eq_true, elaborates_iff, not_and_or, switches, not_and_or, sets, dispatcher]

/-! ## The state after a reset -/

theorem good_resetOf {p : Params} (elaborated : elaborates p = true) : Good (State.resetOf p) :=
  ⟨elaborated, rfl, controllerInv_of_idle rfl⟩

/-- Settles O47: in `IDLE` the invariant asks nothing of the registers, and `State.reset` is one of these states, with the
default sets. -/
theorem resetStateIsGood : Obligations.ResetStateIsGood :=
  ⟨fun _ elaborated => ⟨good_resetOf elaborated, rfl, rfl⟩,
    good_resetOf (elaborates_of_default_sets (Nat.le_refl 1) (Nat.le_refl 1))⟩

end Sys2Proof.Machine
end

section
/-! PROOFS. RESET, the places where a step stops, and the bound on the way to a response (70_reset_and_hazards.md R260 to
R262, R266, R272; 10_state.md R37; 44_decomposition_dispatch.md R208). -/

namespace Sys2Proof.Machine

/-! ## RESET -/

/-- With `rst` asserted the step is RESET and then the host's move, in power-up too, whatever `CTL` holds there (R261, R262). -/
theorem step_eq_resetEvent {s : State} (elaborated : elaborates s.params = true) (legal : s.everReset = true → s.ctl ≠ 3)
    (rst : s.ports.rst = true) : step s = .next s.resetEvent.hostDrives := by
  have event : blockEvent s = .next s.resetEvent := by
    rw [blockEvent, if_neg fun ⟨reset, illegal⟩ => legal reset illegal, if_pos rst]
  rw [step_eq s elaborated, event, thenHost]

/-- Settles O41: the step is RESET, which writes `CTL` and neither the parameters nor the host's record. -/
theorem resetOutranksEveryEvent : Obligations.ResetOutranksEveryEvent := by
  intro s elaborated legal rst
  exact ⟨_, step_eq_resetEvent elaborated legal rst, by simp, by simp [State.reqReady], by simp [State.rspValid], by simp,
    by simp, by simp⟩

/-! ## Where a step stops -/

theorem blockEvent_illegalPhase {s : State} (reset : s.everReset = true) (illegal : s.ctl = 3) :
    blockEvent s = .fault .illegalPhase := by
  rw [blockEvent, if_pos ⟨reset, illegal⟩]

theorem blockEvent_beforeFirstReset {s : State} (never : s.everReset = false) (noRst : s.ports.rst = false) :
    blockEvent s = .fault .beforeFirstReset := by
  simp [blockEvent, never, noRst]

/-- An outcome that is none of the three stops: a next state, or a fault of the final selection
(44_decomposition_dispatch.md R205). -/
def GoesOnOrMeetsMuxFault (o : Host.Outcome State Fault Refusal) : Prop :=
  (∃ t, o = .next t) ∨ o = .fault .muxDecomp ∨ o = .fault .muxNone

theorem GoesOnOrMeetsMuxFault.ne_stop {o : Host.Outcome State Fault Refusal} (h : GoesOnOrMeetsMuxFault o) :
    o ≠ .fault .beforeFirstReset ∧ o ≠ .fault .illegalPhase ∧ ∀ why, o ≠ .refused why := by
  obtain ⟨t, rfl⟩ | rfl | rfl := h <;> simp

/-- The host's move comes after a next state only. -/
theorem GoesOnOrMeetsMuxFault.thenHost {o : Host.Outcome State Fault Refusal} (h : GoesOnOrMeetsMuxFault o) :
    GoesOnOrMeetsMuxFault (thenHost o) := by
  obtain ⟨t, rfl⟩ | rfl | rfl := h
  · exact .inl ⟨t.hostDrives, rfl⟩
  · exact .inr (.inl rfl)
  · exact .inr (.inr rfl)

theorem stepEvent_goesOnOrMeetsMuxFault (kf : BitVec 1) (dir : Dir) (r : Dist) (s : State) :
    GoesOnOrMeetsMuxFault (stepEvent kf dir r s) := by
  obtain ⟨-, -, e⟩ | ⟨-, ⟨_, -, e⟩ | ⟨-, e⟩ | ⟨-, e⟩⟩ := stepEvent_cases kf dir r s
  · exact .inl ⟨_, e⟩
  · exact .inl ⟨_, e⟩
  · exact .inr (.inl e)
  · exact .inr (.inr e)

/-- A reset block in a legal phase has an event, and only STEP can fault in it (R203, R204, R206). -/
theorem blockEvent_goesOnOrMeetsMuxFault {s : State} (reset : s.everReset = true) (noRst : s.ports.rst = false)
    (legal : s.ctl ≠ 3) : GoesOnOrMeetsMuxFault (blockEvent s) := by
  obtain idle | run | resp := ctl_cases legal
  · rw [blockEvent_idle reset noRst idle, idleEvent_eq s idle]
    split_ifs <;> exact .inl ⟨_, rfl⟩
  · rw [blockEvent_run reset noRst run, exec_inFlight_run s run]
    exact stepEvent_goesOnOrMeetsMuxFault ..
  · exact .inl ⟨_, blockEvent_resp reset noRst resp⟩

/-- Everything the step of an accepted elaboration can answer, by whether the block was reset, `rst` and `CTL` (R37, R261,
R262). -/
theorem step_outcomes {s : State} (elaborated : elaborates s.params = true) :
    ((s.everReset = true ∧ s.ctl = 3) ∧ step s = .fault .illegalPhase) ∨
      ((s.everReset = false ∧ s.ports.rst = false) ∧ step s = .fault .beforeFirstReset) ∨
      ¬(s.everReset = true ∧ s.ctl = 3) ∧ ¬(s.everReset = false ∧ s.ports.rst = false) ∧ GoesOnOrMeetsMuxFault (step s) := by
  by_cases illegal : s.everReset = true ∧ s.ctl = 3
  · exact .inl ⟨illegal, by rw [step_eq s elaborated, blockEvent_illegalPhase illegal.1 illegal.2, thenHost]⟩
  by_cases stuck : s.everReset = false ∧ s.ports.rst = false
  · exact .inr (.inl ⟨stuck, by rw [step_eq s elaborated, blockEvent_beforeFirstReset stuck.1 stuck.2, thenHost]⟩)
  refine .inr (.inr ⟨illegal, stuck, ?_⟩)
  have legal : s.everReset = true → s.ctl ≠ 3 := fun reset three => illegal ⟨reset, three⟩
  cases rst : s.ports.rst with
  | true => exact .inl ⟨_, step_eq_resetEvent elaborated legal rst⟩
  | false =>
    have reset : s.everReset = true := by simpa [rst] using stuck
    rw [step_eq s elaborated]
    exact (blockEvent_goesOnOrMeetsMuxFault reset rst (legal reset)).thenHost

theorem step_refused {s : State} (refused : elaborates s.params = false) : step s = .refused .elaboration := by
  simp [step, instanceStep, refused]

/-- No event answers a refusal. -/
theorem step_ne_refused {s : State} (elaborated : elaborates s.params = true) (why : Refusal) : step s ≠ .refused why := by
  obtain ⟨-, e⟩ | ⟨-, e⟩ | ⟨-, -, goesOn⟩ := step_outcomes elaborated
  · simp [e]
  · simp [e]
  · obtain ⟨-, -, neRefused⟩ := goesOn.ne_stop
    exact neRefused why

/-- Settles O42: the two stops exclude each other, and elsewhere the step goes on or faults in the selection. -/
theorem whereAStepStops : Obligations.WhereAStepStops := by
  intro s
  refine ⟨⟨fun stopped => ?_, step_refused⟩, fun elaborated => ?_⟩
  · exact Bool.eq_false_iff.mpr fun elaborated => step_ne_refused elaborated _ stopped
  · obtain ⟨⟨reset, illegal⟩, e⟩ | ⟨⟨never, noRst⟩, e⟩ | ⟨noIllegal, noStuck, goesOn⟩ := step_outcomes elaborated
    · simp [e, reset, illegal]
    · simp [e, never, noRst]
    · obtain ⟨neStuck, neIllegal, -⟩ := goesOn.ne_stop
      exact ⟨iff_of_false neStuck noStuck, iff_of_false neIllegal noIllegal⟩

/-! ## The bound on the way to a response -/

/-- Settles O52: the request's own number of STEPs is at most 255 / 16 + 1. -/
theorem acceptedRequestsRespondWithinSixteenSteps : Obligations.AcceptedRequestsRespondWithinSixteenSteps := by
  intro s good noReset run
  obtain ⟨⟨t, reached, resp, -⟩, -⟩ := respondsIn_of_run good noReset run
  obtain ⟨atLeastOne, atMost⟩ := stepsOf_pos_and_le s.params s.kf (dirOfBit s.dirl) s.r.toNat
  have byte : s.r.toNat < 256 := s.r.isLt
  exact ⟨_, t, atLeastOne, by omega, reached, resp⟩

end Sys2Proof.Machine
end
